-- ==== Sys2Proof/Word.lean ====
section
/-! DEFINITION. The word types of the MQ core (00_scope.md R4, R5). -/

namespace Sys2Proof

/-- `XLEN` = 8 bits: the accumulators, the page registers, the stack pointers, a data or port cell (00_scope.md R4). -/
abbrev Byte := BitVec 8

/-- `IWORD` = 16 bits: an instruction word; also a data-bank address (00_scope.md R4, 20_memory.md R56). -/
abbrev Word16 := BitVec 16

/-- `OPCODE_BITS` = 7 bits (00_scope.md R4). -/
abbrev Opcode := BitVec 7

/-- The name of an extension: its ASCII codes (10_state.md R37; log entry 29). -/
abbrev ExtName := List Byte

/-- A memory of `w`-bit cells: the (address, value) pairs of its non-zero cells, addresses strictly rising. An address that
is not listed reads as 0, the reset contents of every memory (10_state.md R42). `Memory 8` is a list of `Host.Cell`. -/
abbrev Memory (w : Nat) := List (Nat × BitVec w)

end Sys2Proof
end

