-- ==== Sys2Proof/Config.lean ====
section
/-! DEFINITION. The implementation parameters of 00_scope.md R4: the decided values, one definition each, and the open ones
as constants without a body, so that no proof can rest on a value of theirs. -/

namespace Sys2Proof.Config

/-- `ROM_BYTES`: the size of the program store in bytes (decision D2, log entry 2). -/
abbrev romBytes : Nat := 131072

/-- `ROM_WORDS = ROM_BYTES / 2` (decision D2, log entry 2). -/
abbrev romWords : Nat := romBytes / 2

/-- `CACHE_BYTES`: the size of the data bank (00_scope.md R4). -/
abbrev cacheBytes : Nat := 65536

/-- `STACK_ENTRIES`: the entries of each stack (00_scope.md R4). -/
abbrev stackEntries : Nat := 256

/-- `PORT_BYTES`: the size of the port bank (00_scope.md R4). -/
abbrev portBytes : Nat := 256

/-- `PC_MAX`: the largest value `pc` can hold, one past the last word (decision D4, log entry 4). -/
abbrev pcMax : Nat := romWords

/-- `ACC_STACK_ENTRY_BITS`: the width of an accumulator-stack entry (00_scope.md R4). -/
abbrev accStackEntryBits : Nat := 8

/-- `ADR_STACK_ENTRY_BITS`: the width of an address-stack entry (decision D3, conflict C1, log entry 3). -/
abbrev adrStackEntryBits : Nat := 16

/-- `CALL_LINK_OFFSET`: `CALL` pushes `pc` plus this (decision D18, log entry 15). -/
abbrev callLinkOffset : Nat := 0

/-- The values of `DIV0_POLICY`: what `DIV` and `MOD` do when the bus value is 0 (00_scope.md R4, spec/93 U1). -/
inductive Div0Policy where
  /-- The fault `DivideByZero` (60_exceptions.md R205). -/
  | fault
  /-- The source's other suggestion, "saturate": the run goes on with the result `saturated`. -/
  | saturate
  deriving DecidableEq, Repr

/-- `DIV0_POLICY` (decision D5, log entry 5). -/
abbrev div0Policy : Div0Policy := .fault

/-- The result of `DIV` or `MOD`, by opcode and dividend, when `div0Policy` is `saturate`. The spec gives none: a free
constant, log entry 5. -/
opaque saturated : Opcode → Byte → Byte

/-- `IREG_LAYOUT`: the bit of the interrupt register that is `halted` (decision D7, log entry 7). -/
abbrev haltedBit : Nat := 0

/-- `IREG_LAYOUT`: the bit that is `interrupt_pending` (decision D7, log entry 7). -/
abbrev interruptPendingBit : Nat := 1

/-- `IREG_LAYOUT`: the bit that is `illegal_instruction` (decision D7, log entry 7). -/
abbrev illegalInstructionBit : Nat := 2

/-- `IREG_LAYOUT`: the lower of the two reserved bits (decision D7, log entry 7). -/
abbrev reservedLowBit : Nat := 3

/-- The mask the loader applies to the assembly-section length (70_reset_and_hazards.md R234, conflict C10, log entry 17). -/
abbrev loaderMask : Nat := 0x1FFFF

/-- The byte that ends an extension name in the include section (70_reset_and_hazards.md R233, D20, log entry 17). -/
abbrev newline : Byte := 0x0A

/-- The largest byte that may stand in an extension name (70_reset_and_hazards.md R233, D20, log entry 17). -/
abbrev maxNameByte : Nat := 0x7F

/-- `COST_ROM`: the ticks of an opcode when `M = 0` (40_decoder.md R98). Open (D17): a free constant, log entry 14. -/
opaque costRom : Opcode → Nat

/-- `COST_CACHE`: the ticks of an opcode when `M = 1` (40_decoder.md R98). Open (D17): a free constant, log entry 14. -/
opaque costCache : Opcode → Nat

/-- `ConsoleIn`: the byte the host answers to the `UI` that makes the given draw (44_io_system.md R180). Open (D13): a free
value, log entry 12. -/
opaque consoleIn : Nat → Byte

/-- What one call of an extension can see: its name, the port bank, the data bank and the interrupt register as a number
(60_exceptions.md R216). -/
structure ExtRequest where
  name : ExtName
  ports : Memory 8
  dataBank : Memory 8
  interruptRegister : BitVec 5
  deriving DecidableEq, Repr

/-- What one call of an extension does: writes to port cells, writes to data-bank cells at absolute addresses, and the
interrupt register it leaves (44_io_system.md R189, 20_memory.md R64). Every later content of the two memories is the
result of some list of writes. -/
structure ExtResponse where
  portWrites : List (BitVec 8 × Byte)
  dataBankWrites : List (BitVec 16 × Byte)
  interruptRegister : BitVec 5
  deriving DecidableEq, Repr, Inhabited

/-- `ExtProcess`: the response of the extension call that makes the given draw (44_io_system.md R189). Open (D14): a free
value, log entry 13. -/
opaque extProcess : Nat → ExtRequest → ExtResponse

/-- `LOADER_VERSION`: the loader's own version (70_reset_and_hazards.md R235). Open (D20): a free constant, log entry 17. -/
opaque loaderVersion : Nat

/-- The number a container's version tag stands for (70_reset_and_hazards.md R235). Open (D20): a free constant, log
entry 17. -/
opaque versionOfTag : List Byte → Nat

end Sys2Proof.Config
end

