-- ==== Sys2Proof/Syntax.lean ====
section
/-! DEFINITION. The abstract syntax: mnemonics, instructions (one constructor per row of spec/opcode_table.json), the
assembler line of 30_encoding.md R80, the raw field triple of R71, and the executable container of
70_reset_and_hazards.md R232. -/

namespace Sys2Proof

/-- The 46 mnemonics of the instruction set (30_encoding.md R75, R76). -/
inductive Mnemonic where
  /-- R110: no operation. -/
  | nop
  /-- R111: load the accumulator. -/
  | lra
  /-- R112: store the accumulator. -/
  | sra
  /-- R113: push the program counter and jump. -/
  | call
  /-- R114: pop into the program counter, load the accumulator. -/
  | ret
  /-- R115: jump. -/
  | jmp
  /-- R116: jump if the accumulator is not zero. -/
  | jmpp
  /-- R117: jump if the accumulator is zero. -/
  | jmpz
  /-- R118: jump if bit 7 of the accumulator is set. -/
  | jmpn
  /-- R119: jump if the carry flag is set. -/
  | jmpc
  /-- R120: clear the carry flag. -/
  | ccf
  /-- R121: load through the accumulator. -/
  | lrp
  /-- R122: set the cache page. -/
  | ccp
  /-- R123: set the ROM page. -/
  | crp
  /-- R124: push the accumulator. -/
  | push
  /-- R125: pop into the accumulator. -/
  | pop
  /-- R130: bitwise and. -/
  | and
  /-- R131: bitwise or. -/
  | or
  /-- R132: bitwise exclusive or. -/
  | xor
  /-- R133: complement. -/
  | not
  /-- R134: shift left through carry. -/
  | lsc
  /-- R135: shift right through carry. -/
  | rsc
  /-- R136: signed comparison. -/
  | cmp
  /-- R137: unsigned comparison. -/
  | cmpu
  /-- R151: add with carry. -/
  | adc
  /-- R152: subtract with borrow. -/
  | sbc
  /-- R153: increment. -/
  | inc
  /-- R154: decrement. -/
  | dec
  /-- R155: absolute value. -/
  | abs
  /-- R156: low byte of the product. -/
  | mul
  /-- R158: quotient. -/
  | div
  /-- R159: remainder. -/
  | mod
  /-- R160: sine table. -/
  | tse
  /-- R161: cosine table. -/
  | tce
  /-- R162: add. -/
  | add
  /-- R163: subtract. -/
  | sub
  /-- R164: reciprocal table. -/
  | rpl
  /-- R157: high byte of the product. -/
  | mulh
  /-- R180: console input. -/
  | ui
  /-- R181: console output, integer. -/
  | uo
  /-- R182: console output, character. -/
  | uoc
  /-- R183: console output, character, second form. -/
  | uocr
  /-- R184: port write. -/
  | prw
  /-- R185: port read. -/
  | prr
  /-- R186: call the extension dispatcher. -/
  | int
  /-- R187: stop. -/
  | halt
  deriving DecidableEq, Repr

/-- An instruction: one constructor per row of the opcode table, each with the memory flag `M` (bit 15) and the data field
`d` (bits 14:7) of its word. No field of any row is reserved (30_encoding.md R78). -/
inductive Instr where
  /-- R110: no operation. -/
  | nop (m : Bool) (d : Byte)
  /-- R111: load the accumulator. -/
  | lra (m : Bool) (d : Byte)
  /-- R112: store the accumulator. -/
  | sra (m : Bool) (d : Byte)
  /-- R113: push the program counter and jump. -/
  | call (m : Bool) (d : Byte)
  /-- R114: pop into the program counter, load the accumulator. -/
  | ret (m : Bool) (d : Byte)
  /-- R115: jump. -/
  | jmp (m : Bool) (d : Byte)
  /-- R116: jump if the accumulator is not zero. -/
  | jmpp (m : Bool) (d : Byte)
  /-- R117: jump if the accumulator is zero. -/
  | jmpz (m : Bool) (d : Byte)
  /-- R118: jump if bit 7 of the accumulator is set. -/
  | jmpn (m : Bool) (d : Byte)
  /-- R119: jump if the carry flag is set. -/
  | jmpc (m : Bool) (d : Byte)
  /-- R120: clear the carry flag. -/
  | ccf (m : Bool) (d : Byte)
  /-- R121: load through the accumulator. -/
  | lrp (m : Bool) (d : Byte)
  /-- R122: set the cache page. -/
  | ccp (m : Bool) (d : Byte)
  /-- R123: set the ROM page. -/
  | crp (m : Bool) (d : Byte)
  /-- R124: push the accumulator. -/
  | push (m : Bool) (d : Byte)
  /-- R125: pop into the accumulator. -/
  | pop (m : Bool) (d : Byte)
  /-- R130: bitwise and. -/
  | and (m : Bool) (d : Byte)
  /-- R131: bitwise or. -/
  | or (m : Bool) (d : Byte)
  /-- R132: bitwise exclusive or. -/
  | xor (m : Bool) (d : Byte)
  /-- R133: complement. -/
  | not (m : Bool) (d : Byte)
  /-- R134: shift left through carry. -/
  | lsc (m : Bool) (d : Byte)
  /-- R135: shift right through carry. -/
  | rsc (m : Bool) (d : Byte)
  /-- R136: signed comparison. -/
  | cmp (m : Bool) (d : Byte)
  /-- R137: unsigned comparison. -/
  | cmpu (m : Bool) (d : Byte)
  /-- R151: add with carry. -/
  | adc (m : Bool) (d : Byte)
  /-- R152: subtract with borrow. -/
  | sbc (m : Bool) (d : Byte)
  /-- R153: increment. -/
  | inc (m : Bool) (d : Byte)
  /-- R154: decrement. -/
  | dec (m : Bool) (d : Byte)
  /-- R155: absolute value. -/
  | abs (m : Bool) (d : Byte)
  /-- R156: low byte of the product. -/
  | mul (m : Bool) (d : Byte)
  /-- R158: quotient. -/
  | div (m : Bool) (d : Byte)
  /-- R159: remainder. -/
  | mod (m : Bool) (d : Byte)
  /-- R160: sine table. -/
  | tse (m : Bool) (d : Byte)
  /-- R161: cosine table. -/
  | tce (m : Bool) (d : Byte)
  /-- R162: add. -/
  | add (m : Bool) (d : Byte)
  /-- R163: subtract. -/
  | sub (m : Bool) (d : Byte)
  /-- R164: reciprocal table. -/
  | rpl (m : Bool) (d : Byte)
  /-- R157: high byte of the product. -/
  | mulh (m : Bool) (d : Byte)
  /-- R180: console input. -/
  | ui (m : Bool) (d : Byte)
  /-- R181: console output, integer. -/
  | uo (m : Bool) (d : Byte)
  /-- R182: console output, character. -/
  | uoc (m : Bool) (d : Byte)
  /-- R183: console output, character, second form. -/
  | uocr (m : Bool) (d : Byte)
  /-- R184: port write. -/
  | prw (m : Bool) (d : Byte)
  /-- R185: port read. -/
  | prr (m : Bool) (d : Byte)
  /-- R186: call the extension dispatcher. -/
  | int (m : Bool) (d : Byte)
  /-- R187: stop. -/
  | halt (m : Bool) (d : Byte)
  /-- R188: the unmapped opcode 24. -/
  | illegal24 (m : Bool) (d : Byte)
  /-- R188: the unmapped opcode 25. -/
  | illegal25 (m : Bool) (d : Byte)
  /-- R188: the unmapped opcode 26. -/
  | illegal26 (m : Bool) (d : Byte)
  /-- R188: the unmapped opcode 27. -/
  | illegal27 (m : Bool) (d : Byte)
  /-- R188: the unmapped opcode 28. -/
  | illegal28 (m : Bool) (d : Byte)
  /-- R188: the unmapped opcode 29. -/
  | illegal29 (m : Bool) (d : Byte)
  /-- R188: the unmapped opcode 30. -/
  | illegal30 (m : Bool) (d : Byte)
  /-- R188: the unmapped opcode 31. -/
  | illegal31 (m : Bool) (d : Byte)
  /-- R188: the unmapped opcode 46. -/
  | illegal46 (m : Bool) (d : Byte)
  /-- R188: the unmapped opcode 47. -/
  | illegal47 (m : Bool) (d : Byte)
  /-- R188: the unmapped opcode 52. -/
  | illegal52 (m : Bool) (d : Byte)
  /-- R188: the unmapped opcode 53. -/
  | illegal53 (m : Bool) (d : Byte)
  /-- R188: the unmapped opcode 54. -/
  | illegal54 (m : Bool) (d : Byte)
  /-- R188: the unmapped opcode 55. -/
  | illegal55 (m : Bool) (d : Byte)
  /-- R188: the unmapped opcode 56. -/
  | illegal56 (m : Bool) (d : Byte)
  /-- R188: the unmapped opcode 57. -/
  | illegal57 (m : Bool) (d : Byte)
  /-- R188: the unmapped opcode 58. -/
  | illegal58 (m : Bool) (d : Byte)
  /-- R188: the unmapped opcode 59. -/
  | illegal59 (m : Bool) (d : Byte)
  /-- R188: the unmapped opcode 60. -/
  | illegal60 (m : Bool) (d : Byte)
  /-- R188: the unmapped opcode 61. -/
  | illegal61 (m : Bool) (d : Byte)
  /-- R188: the unmapped opcode 62. -/
  | illegal62 (m : Bool) (d : Byte)
  /-- R188: the unmapped opcode 63. -/
  | illegal63 (m : Bool) (d : Byte)
  /-- R188: the unmapped opcode 64. -/
  | illegal64 (m : Bool) (d : Byte)
  /-- R188: the unmapped opcode 65. -/
  | illegal65 (m : Bool) (d : Byte)
  /-- R188: the unmapped opcode 66. -/
  | illegal66 (m : Bool) (d : Byte)
  /-- R188: the unmapped opcode 67. -/
  | illegal67 (m : Bool) (d : Byte)
  /-- R188: the unmapped opcode 68. -/
  | illegal68 (m : Bool) (d : Byte)
  /-- R188: the unmapped opcode 69. -/
  | illegal69 (m : Bool) (d : Byte)
  /-- R188: the unmapped opcode 70. -/
  | illegal70 (m : Bool) (d : Byte)
  /-- R188: the unmapped opcode 71. -/
  | illegal71 (m : Bool) (d : Byte)
  /-- R188: the unmapped opcode 72. -/
  | illegal72 (m : Bool) (d : Byte)
  /-- R188: the unmapped opcode 73. -/
  | illegal73 (m : Bool) (d : Byte)
  /-- R188: the unmapped opcode 74. -/
  | illegal74 (m : Bool) (d : Byte)
  /-- R188: the unmapped opcode 75. -/
  | illegal75 (m : Bool) (d : Byte)
  /-- R188: the unmapped opcode 76. -/
  | illegal76 (m : Bool) (d : Byte)
  /-- R188: the unmapped opcode 77. -/
  | illegal77 (m : Bool) (d : Byte)
  /-- R188: the unmapped opcode 78. -/
  | illegal78 (m : Bool) (d : Byte)
  /-- R188: the unmapped opcode 79. -/
  | illegal79 (m : Bool) (d : Byte)
  /-- R188: the unmapped opcode 80. -/
  | illegal80 (m : Bool) (d : Byte)
  /-- R188: the unmapped opcode 81. -/
  | illegal81 (m : Bool) (d : Byte)
  /-- R188: the unmapped opcode 82. -/
  | illegal82 (m : Bool) (d : Byte)
  /-- R188: the unmapped opcode 83. -/
  | illegal83 (m : Bool) (d : Byte)
  /-- R188: the unmapped opcode 84. -/
  | illegal84 (m : Bool) (d : Byte)
  /-- R188: the unmapped opcode 85. -/
  | illegal85 (m : Bool) (d : Byte)
  /-- R188: the unmapped opcode 86. -/
  | illegal86 (m : Bool) (d : Byte)
  /-- R188: the unmapped opcode 87. -/
  | illegal87 (m : Bool) (d : Byte)
  /-- R188: the unmapped opcode 88. -/
  | illegal88 (m : Bool) (d : Byte)
  /-- R188: the unmapped opcode 89. -/
  | illegal89 (m : Bool) (d : Byte)
  /-- R188: the unmapped opcode 90. -/
  | illegal90 (m : Bool) (d : Byte)
  /-- R188: the unmapped opcode 91. -/
  | illegal91 (m : Bool) (d : Byte)
  /-- R188: the unmapped opcode 92. -/
  | illegal92 (m : Bool) (d : Byte)
  /-- R188: the unmapped opcode 93. -/
  | illegal93 (m : Bool) (d : Byte)
  /-- R188: the unmapped opcode 94. -/
  | illegal94 (m : Bool) (d : Byte)
  /-- R188: the unmapped opcode 95. -/
  | illegal95 (m : Bool) (d : Byte)
  /-- R188: the unmapped opcode 96. -/
  | illegal96 (m : Bool) (d : Byte)
  /-- R188: the unmapped opcode 97. -/
  | illegal97 (m : Bool) (d : Byte)
  /-- R188: the unmapped opcode 98. -/
  | illegal98 (m : Bool) (d : Byte)
  /-- R188: the unmapped opcode 99. -/
  | illegal99 (m : Bool) (d : Byte)
  /-- R188: the unmapped opcode 100. -/
  | illegal100 (m : Bool) (d : Byte)
  /-- R188: the unmapped opcode 101. -/
  | illegal101 (m : Bool) (d : Byte)
  /-- R188: the unmapped opcode 102. -/
  | illegal102 (m : Bool) (d : Byte)
  /-- R188: the unmapped opcode 103. -/
  | illegal103 (m : Bool) (d : Byte)
  /-- R188: the unmapped opcode 104. -/
  | illegal104 (m : Bool) (d : Byte)
  /-- R188: the unmapped opcode 105. -/
  | illegal105 (m : Bool) (d : Byte)
  /-- R188: the unmapped opcode 106. -/
  | illegal106 (m : Bool) (d : Byte)
  /-- R188: the unmapped opcode 107. -/
  | illegal107 (m : Bool) (d : Byte)
  /-- R188: the unmapped opcode 108. -/
  | illegal108 (m : Bool) (d : Byte)
  /-- R188: the unmapped opcode 109. -/
  | illegal109 (m : Bool) (d : Byte)
  /-- R188: the unmapped opcode 110. -/
  | illegal110 (m : Bool) (d : Byte)
  /-- R188: the unmapped opcode 111. -/
  | illegal111 (m : Bool) (d : Byte)
  /-- R188: the unmapped opcode 114. -/
  | illegal114 (m : Bool) (d : Byte)
  /-- R188: the unmapped opcode 115. -/
  | illegal115 (m : Bool) (d : Byte)
  /-- R188: the unmapped opcode 116. -/
  | illegal116 (m : Bool) (d : Byte)
  /-- R188: the unmapped opcode 117. -/
  | illegal117 (m : Bool) (d : Byte)
  /-- R188: the unmapped opcode 118. -/
  | illegal118 (m : Bool) (d : Byte)
  /-- R188: the unmapped opcode 119. -/
  | illegal119 (m : Bool) (d : Byte)
  /-- R188: the unmapped opcode 120. -/
  | illegal120 (m : Bool) (d : Byte)
  /-- R188: the unmapped opcode 121. -/
  | illegal121 (m : Bool) (d : Byte)
  /-- R188: the unmapped opcode 122. -/
  | illegal122 (m : Bool) (d : Byte)
  /-- R188: the unmapped opcode 123. -/
  | illegal123 (m : Bool) (d : Byte)
  /-- R188: the unmapped opcode 124. -/
  | illegal124 (m : Bool) (d : Byte)
  /-- R188: the unmapped opcode 125. -/
  | illegal125 (m : Bool) (d : Byte)
  deriving DecidableEq, Repr

/-- The memory flag `M` of an instruction (30_encoding.md R71). -/
def Instr.memFlag : Instr → Bool
  | .nop m _ | .lra m _ | .sra m _ | .call m _ | .ret m _
  | .jmp m _ | .jmpp m _ | .jmpz m _ | .jmpn m _ | .jmpc m _
  | .ccf m _ | .lrp m _ | .ccp m _ | .crp m _ | .push m _
  | .pop m _ | .and m _ | .or m _ | .xor m _ | .not m _
  | .lsc m _ | .rsc m _ | .cmp m _ | .cmpu m _ | .adc m _
  | .sbc m _ | .inc m _ | .dec m _ | .abs m _ | .mul m _
  | .div m _ | .mod m _ | .tse m _ | .tce m _ | .add m _
  | .sub m _ | .rpl m _ | .mulh m _ | .ui m _ | .uo m _
  | .uoc m _ | .uocr m _ | .prw m _ | .prr m _ | .int m _
  | .halt m _ | .illegal24 m _ | .illegal25 m _ | .illegal26 m _ | .illegal27 m _
  | .illegal28 m _ | .illegal29 m _ | .illegal30 m _ | .illegal31 m _ | .illegal46 m _
  | .illegal47 m _ | .illegal52 m _ | .illegal53 m _ | .illegal54 m _ | .illegal55 m _
  | .illegal56 m _ | .illegal57 m _ | .illegal58 m _ | .illegal59 m _ | .illegal60 m _
  | .illegal61 m _ | .illegal62 m _ | .illegal63 m _ | .illegal64 m _ | .illegal65 m _
  | .illegal66 m _ | .illegal67 m _ | .illegal68 m _ | .illegal69 m _ | .illegal70 m _
  | .illegal71 m _ | .illegal72 m _ | .illegal73 m _ | .illegal74 m _ | .illegal75 m _
  | .illegal76 m _ | .illegal77 m _ | .illegal78 m _ | .illegal79 m _ | .illegal80 m _
  | .illegal81 m _ | .illegal82 m _ | .illegal83 m _ | .illegal84 m _ | .illegal85 m _
  | .illegal86 m _ | .illegal87 m _ | .illegal88 m _ | .illegal89 m _ | .illegal90 m _
  | .illegal91 m _ | .illegal92 m _ | .illegal93 m _ | .illegal94 m _ | .illegal95 m _
  | .illegal96 m _ | .illegal97 m _ | .illegal98 m _ | .illegal99 m _ | .illegal100 m _
  | .illegal101 m _ | .illegal102 m _ | .illegal103 m _ | .illegal104 m _ | .illegal105 m _
  | .illegal106 m _ | .illegal107 m _ | .illegal108 m _ | .illegal109 m _ | .illegal110 m _
  | .illegal111 m _ | .illegal114 m _ | .illegal115 m _ | .illegal116 m _ | .illegal117 m _
  | .illegal118 m _ | .illegal119 m _ | .illegal120 m _ | .illegal121 m _ | .illegal122 m _
  | .illegal123 m _ | .illegal124 m _ | .illegal125 m _ => m

/-- The data field `d` of an instruction (30_encoding.md R71, R73). -/
def Instr.data : Instr → Byte
  | .nop _ d | .lra _ d | .sra _ d | .call _ d | .ret _ d
  | .jmp _ d | .jmpp _ d | .jmpz _ d | .jmpn _ d | .jmpc _ d
  | .ccf _ d | .lrp _ d | .ccp _ d | .crp _ d | .push _ d
  | .pop _ d | .and _ d | .or _ d | .xor _ d | .not _ d
  | .lsc _ d | .rsc _ d | .cmp _ d | .cmpu _ d | .adc _ d
  | .sbc _ d | .inc _ d | .dec _ d | .abs _ d | .mul _ d
  | .div _ d | .mod _ d | .tse _ d | .tce _ d | .add _ d
  | .sub _ d | .rpl _ d | .mulh _ d | .ui _ d | .uo _ d
  | .uoc _ d | .uocr _ d | .prw _ d | .prr _ d | .int _ d
  | .halt _ d | .illegal24 _ d | .illegal25 _ d | .illegal26 _ d | .illegal27 _ d
  | .illegal28 _ d | .illegal29 _ d | .illegal30 _ d | .illegal31 _ d | .illegal46 _ d
  | .illegal47 _ d | .illegal52 _ d | .illegal53 _ d | .illegal54 _ d | .illegal55 _ d
  | .illegal56 _ d | .illegal57 _ d | .illegal58 _ d | .illegal59 _ d | .illegal60 _ d
  | .illegal61 _ d | .illegal62 _ d | .illegal63 _ d | .illegal64 _ d | .illegal65 _ d
  | .illegal66 _ d | .illegal67 _ d | .illegal68 _ d | .illegal69 _ d | .illegal70 _ d
  | .illegal71 _ d | .illegal72 _ d | .illegal73 _ d | .illegal74 _ d | .illegal75 _ d
  | .illegal76 _ d | .illegal77 _ d | .illegal78 _ d | .illegal79 _ d | .illegal80 _ d
  | .illegal81 _ d | .illegal82 _ d | .illegal83 _ d | .illegal84 _ d | .illegal85 _ d
  | .illegal86 _ d | .illegal87 _ d | .illegal88 _ d | .illegal89 _ d | .illegal90 _ d
  | .illegal91 _ d | .illegal92 _ d | .illegal93 _ d | .illegal94 _ d | .illegal95 _ d
  | .illegal96 _ d | .illegal97 _ d | .illegal98 _ d | .illegal99 _ d | .illegal100 _ d
  | .illegal101 _ d | .illegal102 _ d | .illegal103 _ d | .illegal104 _ d | .illegal105 _ d
  | .illegal106 _ d | .illegal107 _ d | .illegal108 _ d | .illegal109 _ d | .illegal110 _ d
  | .illegal111 _ d | .illegal114 _ d | .illegal115 _ d | .illegal116 _ d | .illegal117 _ d
  | .illegal118 _ d | .illegal119 _ d | .illegal120 _ d | .illegal121 _ d | .illegal122 _ d
  | .illegal123 _ d | .illegal124 _ d | .illegal125 _ d => d

/-- The mnemonic of a mapped instruction; none for the rows of unmapped opcodes (30_encoding.md R75, R77). -/
def Instr.mnemonic : Instr → Option Mnemonic
  | .nop _ _ => some .nop
  | .lra _ _ => some .lra
  | .sra _ _ => some .sra
  | .call _ _ => some .call
  | .ret _ _ => some .ret
  | .jmp _ _ => some .jmp
  | .jmpp _ _ => some .jmpp
  | .jmpz _ _ => some .jmpz
  | .jmpn _ _ => some .jmpn
  | .jmpc _ _ => some .jmpc
  | .ccf _ _ => some .ccf
  | .lrp _ _ => some .lrp
  | .ccp _ _ => some .ccp
  | .crp _ _ => some .crp
  | .push _ _ => some .push
  | .pop _ _ => some .pop
  | .and _ _ => some .and
  | .or _ _ => some .or
  | .xor _ _ => some .xor
  | .not _ _ => some .not
  | .lsc _ _ => some .lsc
  | .rsc _ _ => some .rsc
  | .cmp _ _ => some .cmp
  | .cmpu _ _ => some .cmpu
  | .adc _ _ => some .adc
  | .sbc _ _ => some .sbc
  | .inc _ _ => some .inc
  | .dec _ _ => some .dec
  | .abs _ _ => some .abs
  | .mul _ _ => some .mul
  | .div _ _ => some .div
  | .mod _ _ => some .mod
  | .tse _ _ => some .tse
  | .tce _ _ => some .tce
  | .add _ _ => some .add
  | .sub _ _ => some .sub
  | .rpl _ _ => some .rpl
  | .mulh _ _ => some .mulh
  | .ui _ _ => some .ui
  | .uo _ _ => some .uo
  | .uoc _ _ => some .uoc
  | .uocr _ _ => some .uocr
  | .prw _ _ => some .prw
  | .prr _ _ => some .prr
  | .int _ _ => some .int
  | .halt _ _ => some .halt
  | .illegal24 _ _ | .illegal25 _ _ | .illegal26 _ _ | .illegal27 _ _ | .illegal28 _ _
  | .illegal29 _ _ | .illegal30 _ _ | .illegal31 _ _ | .illegal46 _ _ | .illegal47 _ _
  | .illegal52 _ _ | .illegal53 _ _ | .illegal54 _ _ | .illegal55 _ _ | .illegal56 _ _
  | .illegal57 _ _ | .illegal58 _ _ | .illegal59 _ _ | .illegal60 _ _ | .illegal61 _ _
  | .illegal62 _ _ | .illegal63 _ _ | .illegal64 _ _ | .illegal65 _ _ | .illegal66 _ _
  | .illegal67 _ _ | .illegal68 _ _ | .illegal69 _ _ | .illegal70 _ _ | .illegal71 _ _
  | .illegal72 _ _ | .illegal73 _ _ | .illegal74 _ _ | .illegal75 _ _ | .illegal76 _ _
  | .illegal77 _ _ | .illegal78 _ _ | .illegal79 _ _ | .illegal80 _ _ | .illegal81 _ _
  | .illegal82 _ _ | .illegal83 _ _ | .illegal84 _ _ | .illegal85 _ _ | .illegal86 _ _
  | .illegal87 _ _ | .illegal88 _ _ | .illegal89 _ _ | .illegal90 _ _ | .illegal91 _ _
  | .illegal92 _ _ | .illegal93 _ _ | .illegal94 _ _ | .illegal95 _ _ | .illegal96 _ _
  | .illegal97 _ _ | .illegal98 _ _ | .illegal99 _ _ | .illegal100 _ _ | .illegal101 _ _
  | .illegal102 _ _ | .illegal103 _ _ | .illegal104 _ _ | .illegal105 _ _ | .illegal106 _ _
  | .illegal107 _ _ | .illegal108 _ _ | .illegal109 _ _ | .illegal110 _ _ | .illegal111 _ _
  | .illegal114 _ _ | .illegal115 _ _ | .illegal116 _ _ | .illegal117 _ _ | .illegal118 _ _
  | .illegal119 _ _ | .illegal120 _ _ | .illegal121 _ _ | .illegal122 _ _ | .illegal123 _ _
  | .illegal124 _ _ | .illegal125 _ _ => none

/-- One line of assembly in the notation of 30_encoding.md R80: a mnemonic, whether the operand carries the `$` that sets
the memory flag, and at most one operand (an absent operand is 0). -/
structure AsmLine where
  mnemonic : Mnemonic
  dollar : Bool
  operand : Option Nat
  deriving DecidableEq, Repr

/-- The triple `(M, d, opcode)` of plain numbers that a 16-bit word encodes (30_encoding.md R71). -/
structure RawInstr where
  m : Nat
  d : Nat
  opcode : Nat
  deriving DecidableEq, Repr

/-- An executable container (70_reset_and_hazards.md R232 to R234): the header's version tag and two lengths, the include
section and the assembly section. -/
structure Container where
  tag : List Byte
  includeLength : Nat
  assemblyLength : Nat
  includeSection : List Byte
  assemblySection : List Byte
  deriving DecidableEq, Repr

end Sys2Proof
end

