-- ==== Sys2Proof/WellFormed.lean ====
section
/-! DEFINITION. The well-formedness checks. An `Instr` needs none: its fields have the widths of 30_encoding.md R71 and no
field of any row is reserved (R78). The checks are on what is written with plain numbers or byte lists: the raw triple, the
assembler line and the container. -/

namespace Sys2Proof

/-- A raw triple fits the fields of a word: `M` one bit, `d` eight, `opcode` seven (30_encoding.md R71). -/
def RawInstr.wf (r : RawInstr) : Bool :=
  decide (r.m ≤ 1) && decide (r.d ≤ 255) && decide (r.opcode ≤ 127)

/-- An assembler line's operand is one of 0 to 255 (30_encoding.md R80). -/
def AsmLine.wf (l : AsmLine) : Bool :=
  l.operand.all (fun n => decide (n ≤ 255))

/-- A container whose header fields have the widths of 70_reset_and_hazards.md R232 and whose sections have the lengths its
header states. -/
def Container.wf (c : Container) : Bool :=
  decide (c.tag.length = 4) && decide (c.includeLength < 2 ^ 16) && decide (c.assemblyLength < 2 ^ 32) &&
    decide (c.includeSection.length = c.includeLength) && decide (c.assemblySection.length = c.assemblyLength)

end Sys2Proof
end

