-- ==== Sys2Proof/Decode.lean ====
section
/-! DEFINITION. The opcode map, the decoder and the encoder (30_encoding.md, 40_decoder.md R92, R93, R96). The opcode map
`opc` stands once: the decoder, the encoder, the operand rule of `SRA` and the cost tables all read it. -/

namespace Sys2Proof

/-- The parameter `OPC`: the opcode number of each mnemonic (30_encoding.md R75; PRESUMED, log entry 1: the spec supplies
the numbers from general knowledge, decision D1). -/
def opc : Mnemonic → Opcode
  | .nop => 0
  | .lra => 1
  | .sra => 2
  | .call => 3
  | .ret => 4
  | .jmp => 5
  | .jmpp => 6
  | .jmpz => 7
  | .jmpn => 8
  | .jmpc => 9
  | .ccf => 10
  | .lrp => 11
  | .ccp => 12
  | .crp => 13
  | .push => 14
  | .pop => 15
  | .and => 16
  | .or => 17
  | .xor => 18
  | .not => 19
  | .lsc => 20
  | .rsc => 21
  | .cmp => 22
  | .cmpu => 23
  | .adc => 32
  | .sbc => 33
  | .inc => 34
  | .dec => 35
  | .abs => 36
  | .mul => 37
  | .div => 38
  | .mod => 39
  | .tse => 40
  | .tce => 41
  | .add => 42
  | .sub => 43
  | .rpl => 44
  | .mulh => 45
  | .ui => 48
  | .uo => 49
  | .uoc => 50
  | .uocr => 51
  | .prw => 112
  | .prr => 113
  | .int => 126
  | .halt => 127

/-- The opcode number an instruction's word carries: `opc` for a mapped instruction, the row's own number for a row of an
unmapped opcode (30_encoding.md R75, R77). -/
def Instr.opcode : Instr → Opcode
  | .nop _ _ => opc .nop
  | .lra _ _ => opc .lra
  | .sra _ _ => opc .sra
  | .call _ _ => opc .call
  | .ret _ _ => opc .ret
  | .jmp _ _ => opc .jmp
  | .jmpp _ _ => opc .jmpp
  | .jmpz _ _ => opc .jmpz
  | .jmpn _ _ => opc .jmpn
  | .jmpc _ _ => opc .jmpc
  | .ccf _ _ => opc .ccf
  | .lrp _ _ => opc .lrp
  | .ccp _ _ => opc .ccp
  | .crp _ _ => opc .crp
  | .push _ _ => opc .push
  | .pop _ _ => opc .pop
  | .and _ _ => opc .and
  | .or _ _ => opc .or
  | .xor _ _ => opc .xor
  | .not _ _ => opc .not
  | .lsc _ _ => opc .lsc
  | .rsc _ _ => opc .rsc
  | .cmp _ _ => opc .cmp
  | .cmpu _ _ => opc .cmpu
  | .adc _ _ => opc .adc
  | .sbc _ _ => opc .sbc
  | .inc _ _ => opc .inc
  | .dec _ _ => opc .dec
  | .abs _ _ => opc .abs
  | .mul _ _ => opc .mul
  | .div _ _ => opc .div
  | .mod _ _ => opc .mod
  | .tse _ _ => opc .tse
  | .tce _ _ => opc .tce
  | .add _ _ => opc .add
  | .sub _ _ => opc .sub
  | .rpl _ _ => opc .rpl
  | .mulh _ _ => opc .mulh
  | .ui _ _ => opc .ui
  | .uo _ _ => opc .uo
  | .uoc _ _ => opc .uoc
  | .uocr _ _ => opc .uocr
  | .prw _ _ => opc .prw
  | .prr _ _ => opc .prr
  | .int _ _ => opc .int
  | .halt _ _ => opc .halt
  | .illegal24 _ _ => 24
  | .illegal25 _ _ => 25
  | .illegal26 _ _ => 26
  | .illegal27 _ _ => 27
  | .illegal28 _ _ => 28
  | .illegal29 _ _ => 29
  | .illegal30 _ _ => 30
  | .illegal31 _ _ => 31
  | .illegal46 _ _ => 46
  | .illegal47 _ _ => 47
  | .illegal52 _ _ => 52
  | .illegal53 _ _ => 53
  | .illegal54 _ _ => 54
  | .illegal55 _ _ => 55
  | .illegal56 _ _ => 56
  | .illegal57 _ _ => 57
  | .illegal58 _ _ => 58
  | .illegal59 _ _ => 59
  | .illegal60 _ _ => 60
  | .illegal61 _ _ => 61
  | .illegal62 _ _ => 62
  | .illegal63 _ _ => 63
  | .illegal64 _ _ => 64
  | .illegal65 _ _ => 65
  | .illegal66 _ _ => 66
  | .illegal67 _ _ => 67
  | .illegal68 _ _ => 68
  | .illegal69 _ _ => 69
  | .illegal70 _ _ => 70
  | .illegal71 _ _ => 71
  | .illegal72 _ _ => 72
  | .illegal73 _ _ => 73
  | .illegal74 _ _ => 74
  | .illegal75 _ _ => 75
  | .illegal76 _ _ => 76
  | .illegal77 _ _ => 77
  | .illegal78 _ _ => 78
  | .illegal79 _ _ => 79
  | .illegal80 _ _ => 80
  | .illegal81 _ _ => 81
  | .illegal82 _ _ => 82
  | .illegal83 _ _ => 83
  | .illegal84 _ _ => 84
  | .illegal85 _ _ => 85
  | .illegal86 _ _ => 86
  | .illegal87 _ _ => 87
  | .illegal88 _ _ => 88
  | .illegal89 _ _ => 89
  | .illegal90 _ _ => 90
  | .illegal91 _ _ => 91
  | .illegal92 _ _ => 92
  | .illegal93 _ _ => 93
  | .illegal94 _ _ => 94
  | .illegal95 _ _ => 95
  | .illegal96 _ _ => 96
  | .illegal97 _ _ => 97
  | .illegal98 _ _ => 98
  | .illegal99 _ _ => 99
  | .illegal100 _ _ => 100
  | .illegal101 _ _ => 101
  | .illegal102 _ _ => 102
  | .illegal103 _ _ => 103
  | .illegal104 _ _ => 104
  | .illegal105 _ _ => 105
  | .illegal106 _ _ => 106
  | .illegal107 _ _ => 107
  | .illegal108 _ _ => 108
  | .illegal109 _ _ => 109
  | .illegal110 _ _ => 110
  | .illegal111 _ _ => 111
  | .illegal114 _ _ => 114
  | .illegal115 _ _ => 115
  | .illegal116 _ _ => 116
  | .illegal117 _ _ => 117
  | .illegal118 _ _ => 118
  | .illegal119 _ _ => 119
  | .illegal120 _ _ => 120
  | .illegal121 _ _ => 121
  | .illegal122 _ _ => 122
  | .illegal123 _ _ => 123
  | .illegal124 _ _ => 124
  | .illegal125 _ _ => 125

/-- The rows of mapped opcodes, with the fields `m` and `d` (30_encoding.md R75). -/
def mappedRows (m : Bool) (d : Byte) : List Instr :=
  [.nop m d, .lra m d, .sra m d, .call m d, .ret m d, .jmp m d] ++
  [.jmpp m d, .jmpz m d, .jmpn m d, .jmpc m d, .ccf m d, .lrp m d] ++
  [.ccp m d, .crp m d, .push m d, .pop m d, .and m d, .or m d] ++
  [.xor m d, .not m d, .lsc m d, .rsc m d, .cmp m d, .cmpu m d] ++
  [.adc m d, .sbc m d, .inc m d, .dec m d, .abs m d, .mul m d] ++
  [.div m d, .mod m d, .tse m d, .tce m d, .add m d, .sub m d] ++
  [.rpl m d, .mulh m d, .ui m d, .uo m d, .uoc m d, .uocr m d] ++
  [.prw m d, .prr m d, .int m d, .halt m d]

/-- The rows of unmapped opcodes, with the fields `m` and `d` (30_encoding.md R77). -/
def unmappedRows (m : Bool) (d : Byte) : List Instr :=
  [.illegal24 m d, .illegal25 m d, .illegal26 m d, .illegal27 m d, .illegal28 m d, .illegal29 m d] ++
  [.illegal30 m d, .illegal31 m d, .illegal46 m d, .illegal47 m d, .illegal52 m d, .illegal53 m d] ++
  [.illegal54 m d, .illegal55 m d, .illegal56 m d, .illegal57 m d, .illegal58 m d, .illegal59 m d] ++
  [.illegal60 m d, .illegal61 m d, .illegal62 m d, .illegal63 m d, .illegal64 m d, .illegal65 m d] ++
  [.illegal66 m d, .illegal67 m d, .illegal68 m d, .illegal69 m d, .illegal70 m d, .illegal71 m d] ++
  [.illegal72 m d, .illegal73 m d, .illegal74 m d, .illegal75 m d, .illegal76 m d, .illegal77 m d] ++
  [.illegal78 m d, .illegal79 m d, .illegal80 m d, .illegal81 m d, .illegal82 m d, .illegal83 m d] ++
  [.illegal84 m d, .illegal85 m d, .illegal86 m d, .illegal87 m d, .illegal88 m d, .illegal89 m d] ++
  [.illegal90 m d, .illegal91 m d, .illegal92 m d, .illegal93 m d, .illegal94 m d, .illegal95 m d] ++
  [.illegal96 m d, .illegal97 m d, .illegal98 m d, .illegal99 m d, .illegal100 m d, .illegal101 m d] ++
  [.illegal102 m d, .illegal103 m d, .illegal104 m d, .illegal105 m d, .illegal106 m d, .illegal107 m d] ++
  [.illegal108 m d, .illegal109 m d, .illegal110 m d, .illegal111 m d, .illegal114 m d, .illegal115 m d] ++
  [.illegal116 m d, .illegal117 m d, .illegal118 m d, .illegal119 m d, .illegal120 m d, .illegal121 m d] ++
  [.illegal122 m d, .illegal123 m d, .illegal124 m d, .illegal125 m d]

/-- All 128 rows of the opcode table, with the fields `m` and `d`. -/
def allRows (m : Bool) (d : Byte) : List Instr :=
  mappedRows m d ++ unmappedRows m d

/-- Dispatch by opcode alone: the row whose opcode number is `op` (30_encoding.md R75, 40_decoder.md R96). The list holds a
row for each of the 128 opcodes, so the fallback is not reached under the map `opc`. -/
def instrOf (op : Opcode) (m : Bool) (d : Byte) : Instr :=
  ((allRows m d).find? (fun i => i.opcode == op)).getD (.illegal24 m d)

/-- The memory flag of a word: bit 15 (30_encoding.md R71). -/
def flagField (w : Word16) : Bool := w.getLsbD 15

/-- The data field of a word: bits 14:7 (30_encoding.md R71). -/
def dataField (w : Word16) : Byte := w.extractLsb 14 7

/-- The opcode of a word: bits 6:0 (30_encoding.md R71). -/
def opcodeField (w : Word16) : Opcode := w.extractLsb 6 0

/-- Decoding a word: total over all 65536 words, never an error (30_encoding.md R82, 40_decoder.md R93). -/
def decodeWord (w : Word16) : Instr :=
  instrOf (opcodeField w) (flagField w) (dataField w)

/-- Why a list of bytes holds no instruction. -/
inductive DecodeError where
  /-- Fewer than the two bytes of a word are left. -/
  | truncated (bytesLeft : Nat)
  deriving DecidableEq, Repr

/-- The word two consecutive bytes hold, the low byte first (20_memory.md R51). -/
def wordOfBytes (low high : Byte) : Word16 := high ++ low

/-- The low byte of a word, the one stored first (30_encoding.md R72). -/
def lowByte (w : Word16) : Byte := w.extractLsb 7 0

/-- The high byte of a word (30_encoding.md R72). -/
def highByte (w : Word16) : Byte := w.extractLsb 15 8

/-- Decoding bytes in store order: the instruction of the first word and the bytes after it; rejects only a list too short
for a word. -/
def decode : List Byte → Except DecodeError (Instr × List Byte)
  | low :: high :: rest => .ok (decodeWord (wordOfBytes low high), rest)
  | [_] => .error (.truncated 1)
  | [] => .error (.truncated 0)

/-- The word of a field triple: `(M << 15) | (d << 7) | opcode` (30_encoding.md R71). -/
def encodeFields (m : Bool) (d : Byte) (op : Opcode) : Word16 :=
  ((BitVec.ofBool m).setWidth 16 <<< 15) ||| (d.setWidth 16 <<< 7) ||| op.setWidth 16

/-- The word of an instruction (30_encoding.md R71, R75). -/
def encode (i : Instr) : Word16 := encodeFields i.memFlag i.data i.opcode

/-- The bytes of an instruction in store order, low byte first (30_encoding.md R72). -/
def encodeBytes (i : Instr) : List Byte := [lowByte (encode i), highByte (encode i)]

/-- The triple of plain numbers of an instruction. -/
def Instr.raw (i : Instr) : RawInstr :=
  { m := i.memFlag.toNat, d := i.data.toNat, opcode := i.opcode.toNat }

/-- The word of a raw triple as a plain number; meant for a well-formed one (30_encoding.md R71). -/
def RawInstr.enc (r : RawInstr) : Nat := (r.m <<< 15) ||| (r.d <<< 7) ||| r.opcode

/-- The word of an assembler line, none for an operand above 255: `MNEMONIC n` has `M = 0`, `MNEMONIC $n` has `M = 1`
(30_encoding.md R80). -/
def AsmLine.assemble (l : AsmLine) : Option Word16 :=
  if l.wf then some (encodeFields l.dollar (BitVec.ofNat 8 (l.operand.getD 0)) (opc l.mnemonic)) else none

/-- The two bytes, in store order, of the instruction whose `nbits` bits are `w` (every bit above them 0). -/
def tableBytes (nbits w : Nat) : List Byte :=
  [BitVec.ofNat 8 (w % 2 ^ nbits), BitVec.ofNat 8 (w % 2 ^ nbits / 256)]

/-- What the decoder reads from an opcode-table row's word. -/
def decodeTableWord (nbits w : Nat) : Option Instr :=
  match decode (tableBytes nbits w) with
  | .ok (i, _) => some i
  | .error _ => none

end Sys2Proof
end

