-- ==== Sys2Proof/Machine/State.lean ====
section
/-! DEFINITION. The state of the MQ core (10_state.md R20), the reasons a step can stop (60_exceptions.md R200), and the
state right after reset (10_state.md R42). -/

namespace Sys2Proof.Machine

/-- Why the run ends: the conditions T1 to T6 of 60_exceptions.md R200, and the stop an extension causes by leaving the
interrupt register non-zero (44_io_system.md R186, spec/93 U3). A `Fault` is what a step answers when the machine has no
further step; it is also the name the core reports to the host when an instruction raises the condition. -/
inductive Fault where
  /-- T1. Raised by `HALT` (R187, R201); every later step answers it. Safe: the spec gives such a state no step. -/
  | halt
  /-- T2. Raised by an unmapped opcode (R188, R202); every later step answers it. Safe: the state has no step. -/
  | illegalInstruction
  /-- T3. Raised before fetch when the word at `pc` is not wholly inside the program store (R91, R203). Safe: the program
  counter never wraps (log entry 4). -/
  | programCounterOverflow
  /-- T4. Raised by `INT` when no extension is declared (R186, R204); every later step answers it. Safe: no step. -/
  | interruptFatal
  /-- T5. Raised by `DIV` and `MOD` with a zero divisor (R158, R159, R205); every later step answers it. Safe: no quotient
  of a zero divisor exists in the model (log entry 5). -/
  | divideByZero
  /-- T6. The host asked to stop between two steps (R99, R207). Safe: the run is only cut short (log entry 19). -/
  | hostStop
  /-- An extension left a bit set in the interrupt register, so the run loop stops (R186 corner case 4, R90). Safe: the
  state has no step. -/
  | deviceStop
  deriving DecidableEq, Repr

/-- Why an instruction has no meaning. No arm of `exec` answers one. -/
inductive Refusal where
  /-- The instruction has no meaning in this model yet; answered by `exec`'s arms only. Safe: nothing runs. -/
  | notModelled (mnemonic : String)
  deriving DecidableEq, Repr

/-- The interrupt register: three named bits and two reserved ones (10_state.md R31, decision D7, log entry 7). -/
structure InterruptRegister where
  halted : Bool
  interruptPending : Bool
  illegalInstruction : Bool
  reserved : BitVec 2
  deriving DecidableEq, Repr

/-- Which of the three console-output instructions emitted an event (44_io_system.md R181 to R183). -/
inductive ConsoleForm where
  | uo
  | uoc
  | uocr
  deriving DecidableEq, Repr

/-- What the host receives besides the machine state (log entries 12, 13, 17). -/
inductive HostEvent where
  /-- `ConsoleOut(form, acc, b)` (44_io_system.md R181 to R183). -/
  | consoleOut (form : ConsoleForm) (acc b : Byte)
  /-- The dispatcher's warning that a declared extension is not registered (60_exceptions.md R215). -/
  | extensionMissing (name : ExtName)
  /-- The loader's warning that the container declares a newer version (70_reset_and_hazards.md R235). -/
  | newerVersion (tag : List Byte)
  deriving DecidableEq, Repr

/-- The complete state (10_state.md R20), and after it the model's own host-side fields (log entry 25). -/
structure State where
  /-- 10_state.md R23. -/
  acc : Byte
  /-- 10_state.md R24: no instruction uses it. -/
  bacc : Byte
  /-- 10_state.md R25: a word address that does not wrap (log entry 4). -/
  pc : Nat
  /-- 10_state.md R29. -/
  accStackPointer : Byte
  /-- 10_state.md R29. -/
  adrStackPointer : Byte
  /-- 10_state.md R28. -/
  carryFlag : Bool
  /-- 10_state.md R30. -/
  cachePage : Byte
  /-- 10_state.md R30. -/
  romPage : Byte
  /-- 10_state.md R31. -/
  interruptRegister : InterruptRegister
  /-- 10_state.md R34. -/
  programStore : Memory 8
  /-- 10_state.md R35. -/
  dataBank : Memory 8
  /-- 10_state.md R36. -/
  accStack : Memory Config.accStackEntryBits
  /-- 10_state.md R36, with entries of `ADR_STACK_ENTRY_BITS` (log entry 3). -/
  adrStack : Memory Config.adrStackEntryBits
  /-- 10_state.md R37. -/
  ports : Memory 8
  /-- 10_state.md R38: unbounded (log entry 14). -/
  tickCounter : Nat
  /-- 10_state.md R39: unbounded (log entry 14). -/
  instructionCounter : Nat
  /-- `EXT_NAMES`, written by the loader only (10_state.md R37, R41). -/
  extNames : List ExtName
  /-- Host side: the names of the extensions registered with the dispatcher (60_exceptions.md R215; log entry 25). -/
  registry : List ExtName
  /-- Host side: a stop request of the host that is pending (60_exceptions.md R207; log entry 19). The host sets it with
  `pollHost` between two steps, and the end of a run drops it with `clearStopRequest`; no instruction touches it. -/
  stopRequested : Bool
  /-- Host side: how many free answers of the host have been drawn (log entry 25). -/
  draws : Nat
  /-- Host side: the events the host received, oldest first (log entries 12, 13, 17). -/
  trace : List HostEvent
  /-- Host side: the condition the core raised, as reported at the end of the run (40_decoder.md R99; log entry 24). -/
  ended : Option Fault
  deriving DecidableEq, Repr

/-- The machine right after reset: every register, flag, counter and memory cell is 0 and no extension is declared
(10_state.md R42, 70_reset_and_hazards.md R230, R231). The host-side fields start empty (log entry 25). -/
def State.reset : State where
  acc := 0
  bacc := 0
  pc := 0
  accStackPointer := 0
  adrStackPointer := 0
  carryFlag := false
  cachePage := 0
  romPage := 0
  interruptRegister :=
    { halted := false, interruptPending := false, illegalInstruction := false, reserved := 0 }
  programStore := []
  dataBank := []
  accStack := []
  adrStack := []
  ports := []
  tickCounter := 0
  instructionCounter := 0
  extNames := []
  registry := []
  stopRequested := false
  draws := 0
  trace := []
  ended := none

end Sys2Proof.Machine
end

