-- ==== Sys2Proof/Machine/Ops.lean ====
section
/-! DEFINITION. The named operations over memory and registers: cells, page translation, the stacks, the program counter,
the counters, raising a terminating condition, the fetch, the guard before a step, and the extension dispatcher. -/

namespace Sys2Proof

/-- The cell at an address; an unlisted address reads as 0 (10_state.md R42, 20_memory.md R66). -/
def Memory.read {w : Nat} : Memory w → Nat → BitVec w
  | [], _ => 0
  | (k, v) :: m, a => if k = a then v else Memory.read m a

/-- The memory without an entry for an address. -/
def Memory.erase {w : Nat} (m : Memory w) (a : Nat) : Memory w :=
  m.filter (fun c => c.1 != a)

/-- The memory with an entry put before the first entry of a larger address. -/
def Memory.insert {w : Nat} : Memory w → Nat → BitVec w → Memory w
  | [], a, v => [(a, v)]
  | (k, x) :: m, a, v => if a < k then (a, v) :: (k, x) :: m else (k, x) :: Memory.insert m a v

/-- `MemWrite`: one cell replaced, no other changed; a zero leaves no entry, so the form stays canonical (20_memory.md
R66). -/
def Memory.write {w : Nat} (m : Memory w) (a : Nat) (v : BitVec w) : Memory w :=
  if v = 0 then m.erase a else (m.erase a).insert a v

/-- The canonical form of a memory of `size` cells: addresses strictly rising and inside the space, no zero entry. -/
def Memory.wf {w : Nat} (size : Nat) (m : Memory w) : Bool :=
  decide (m.Pairwise (fun c c' => c.1 < c'.1)) && m.all (fun c => decide (c.1 < size) && c.2 != 0)

/-- Several cells written one after another. -/
def Memory.writeAll {w n : Nat} (m : Memory w) (writes : List (BitVec n × BitVec w)) : Memory w :=
  writes.foldl (fun m p => m.write p.1.toNat p.2) m

/-- Bytes copied to consecutive addresses from `base` on (70_reset_and_hazards.md R234). -/
def Memory.copyFrom (m : Memory 8) (base : Nat) : List Byte → Memory 8
  | [] => m
  | b :: bs => Memory.copyFrom (m.write base b) (base + 1) bs

namespace Machine

/-- The interrupt register as the number an extension sees (decision D7, log entry 7). -/
def InterruptRegister.toBits (r : InterruptRegister) : BitVec 5 :=
  (BitVec.ofBool r.halted).setWidth 5 <<< Config.haltedBit |||
  (BitVec.ofBool r.interruptPending).setWidth 5 <<< Config.interruptPendingBit |||
  (BitVec.ofBool r.illegalInstruction).setWidth 5 <<< Config.illegalInstructionBit |||
  r.reserved.setWidth 5 <<< Config.reservedLowBit

/-- The interrupt register an extension's number stands for (decision D7, log entry 7). -/
def InterruptRegister.ofBits (v : BitVec 5) : InterruptRegister where
  halted := v.getLsbD Config.haltedBit
  interruptPending := v.getLsbD Config.interruptPendingBit
  illegalInstruction := v.getLsbD Config.illegalInstructionBit
  reserved := v.extractLsb' Config.reservedLowBit 2

/-- Some bit of the interrupt register is set, reserved ones included (40_decoder.md R90, R99). -/
def InterruptRegister.isSet (r : InterruptRegister) : Bool :=
  r.halted || r.interruptPending || r.illegalInstruction || r.reserved != 0

/-- `acc <- v`. -/
def setAcc (v : Byte) (s : State) : State := { s with acc := v }

/-- `carry_flag <- c`. -/
def setCarry (c : Bool) (s : State) : State := { s with carryFlag := c }

/-- The accumulator and the carry flag from one computation. -/
def setAccCarry (p : Byte × Bool) (s : State) : State := setCarry p.2 (setAcc p.1 s)

/-- `cache_page <- v`. -/
def setCachePage (v : Byte) (s : State) : State := { s with cachePage := v }

/-- `rom_page <- v`. -/
def setRomPage (v : Byte) (s : State) : State := { s with romPage := v }

/-- `EA_c(x) = (cache_page << 8) | x` (20_memory.md R56). -/
def eaCache (s : State) (x : Byte) : Word16 := s.cachePage ++ x

/-- `EA_r(x) = (rom_page << 8) | x`, a word address (20_memory.md R57). -/
def eaRom (s : State) (x : Byte) : Nat := (s.romPage ++ x).toNat

/-- The data-bank byte at an address (20_memory.md R66). -/
def readCache (s : State) (a : Word16) : Byte := s.dataBank.read a.toNat

/-- The data-bank byte at an address replaced (20_memory.md R66). -/
def writeCache (a : Word16) (v : Byte) (s : State) : State :=
  { s with dataBank := s.dataBank.write a.toNat v }

/-- A port read: the address is the data field itself and reading has no side effect (20_memory.md R60, 10_state.md R37). -/
def readPort (s : State) (a : Byte) : Byte := s.ports.read a.toNat

/-- A port write (20_memory.md R60). -/
def writePort (a : Byte) (v : Byte) (s : State) : State :=
  { s with ports := s.ports.write a.toNat v }

/-- `AccStack[acc_stack_pointer] <- v; acc_stack_pointer <- (acc_stack_pointer + 1) mod 256` (20_memory.md R59). -/
def pushAcc (v : Byte) (s : State) : State :=
  { s with
    accStack := s.accStack.write s.accStackPointer.toNat v
    accStackPointer := s.accStackPointer + 1 }

/-- `acc_stack_pointer <- (acc_stack_pointer - 1) mod 256` (20_memory.md R59). -/
def dropAcc (s : State) : State := { s with accStackPointer := s.accStackPointer - 1 }

/-- The accumulator-stack entry the pointer indexes. -/
def topAcc (s : State) : Byte := s.accStack.read s.accStackPointer.toNat

/-- `AdrStack[adr_stack_pointer] <- v mod 2^ADR_STACK_ENTRY_BITS; adr_stack_pointer <- (adr_stack_pointer + 1) mod 256`
(20_memory.md R59). -/
def pushAdr (v : Nat) (s : State) : State :=
  { s with
    adrStack := s.adrStack.write s.adrStackPointer.toNat (BitVec.ofNat Config.adrStackEntryBits v)
    adrStackPointer := s.adrStackPointer + 1 }

/-- `adr_stack_pointer <- (adr_stack_pointer - 1) mod 256` (20_memory.md R59). -/
def dropAdr (s : State) : State := { s with adrStackPointer := s.adrStackPointer - 1 }

/-- The address-stack entry the pointer indexes, as a word address. -/
def topAdr (s : State) : Nat := (s.adrStack.read s.adrStackPointer.toNat).toNat

/-- What `CALL` pushes: the word address of the `CALL` plus `CALL_LINK_OFFSET` (41_control.md R113, log entry 15). -/
def callLink (s : State) : Nat := s.pc + Config.callLinkOffset

/-- `pc <- target` (10_state.md R26). -/
def jumpTo (target : Nat) (s : State) : State := { s with pc := target }

/-- `pc <- pc + 1`, without a wrap (10_state.md R25, R26, 40_decoder.md R97). -/
def advance (s : State) : State := { s with pc := s.pc + 1 }

/-- A conditional jump: `EA_r(b)` when the condition holds, `pc + 1` otherwise (10_state.md R26). -/
def jumpIf (c : Bool) (b : Byte) (s : State) : State :=
  if c then jumpTo (eaRom s b) s else advance s

/-- The ticks of an opcode: the cache cost when `M = 1`, the ROM cost when `M = 0` (40_decoder.md R98). -/
def tickCost (op : Opcode) (m : Bool) : Nat :=
  if m then Config.costCache op else Config.costRom op

/-- The counters after an executed instruction (40_decoder.md R98). -/
def countInstr (op : Opcode) (m : Bool) (s : State) : State :=
  { s with
    tickCounter := s.tickCounter + tickCost op m
    instructionCounter := s.instructionCounter + 1 }

/-- The end of every handler, terminating or not: the instruction is counted (40_decoder.md R98). -/
def retire (i : Instr) (s : State) : Host.Outcome State Fault Refusal :=
  .next (countInstr i.opcode i.memFlag s)

/-- The bit of the interrupt register that records a condition (60_exceptions.md R200); none for T3 and T6. -/
def markCondition (c : Fault) (r : InterruptRegister) : InterruptRegister :=
  match c with
  | .halt => { r with halted := true }
  | .illegalInstruction => { r with illegalInstruction := true }
  | .interruptFatal => { r with interruptPending := true }
  | .divideByZero => { r with illegalInstruction := true }
  | .programCounterOverflow => r
  | .hostStop => r
  | .deviceStop => r

/-- Trap entry (60_exceptions.md R209): the condition's bit is set, `pc` stays on the instruction that raised it, nothing is
saved and no mode changes; the host is told the condition (40_decoder.md R99, log entry 24). There is no trap return
(R210): no operation of the core clears the bit, and `runGuard` gives the state no further step. -/
def raise (c : Fault) (s : State) : State :=
  { s with interruptRegister := markCondition c s.interruptRegister, ended := some c }

/-- What `DIV` and `MOD` do with a zero divisor, as `DIV0_POLICY` says (43_arithmetic.md R158, R159, 60_exceptions.md R205,
log entry 5). -/
def zeroDivisor (op : Opcode) (s : State) : State :=
  match Config.div0Policy with
  | .fault => raise .divideByZero s
  | .saturate => advance (setAcc (Config.saturated op s.acc) s)

/-- The host's poll between two steps: it asks, or does not ask, to stop; a request that is pending stays (60_exceptions.md
R207, log entry 19). -/
def pollHost (asked : Bool) (s : State) : State := { s with stopRequested := s.stopRequested || asked }

/-- The host's request is dropped, so that the run can be resumed by stepping again (60_exceptions.md R207, log entry
19). -/
def clearStopRequest (s : State) : State := { s with stopRequested := false }

/-- An event handed to the host (44_io_system.md R181). -/
def emit (e : HostEvent) (s : State) : State := { s with trace := s.trace ++ [e] }

/-- One free answer of the host has been drawn (log entry 25). -/
def countDraw (s : State) : State := { s with draws := s.draws + 1 }

/-- The word at `pc` lies wholly inside the program store (40_decoder.md R91). -/
def pcInRange (s : State) : Bool := decide (2 * s.pc + 1 < Config.romBytes)

/-- `Rom[2*pc]` and `Rom[2*pc + 1]`, the low byte first (40_decoder.md R92, 20_memory.md R51). -/
def fetchWord (s : State) : Word16 :=
  wordOfBytes (s.programStore.read (2 * s.pc)) (s.programStore.read (2 * s.pc + 1))

/-- A word stored where the next step fetches it, low byte first. Only the test interface uses it: no instruction writes
the program store (10_state.md R34). -/
def storeFetchWord (w : Word16) (s : State) : State :=
  { s with
    programStore := (s.programStore.write (2 * s.pc) (lowByte w)).write (2 * s.pc + 1) (highByte w) }

/-- The terminal states of 40_decoder.md R104. -/
def State.terminal (s : State) : Bool := s.interruptRegister.isSet || !pcInRange s

/-- Why a state with a bit of the interrupt register set has no step: the condition the core raised, or, when it raised
none, an extension that set the bit (60_exceptions.md R200, spec/93 U3; log entry 24). -/
def stopReason (s : State) : Fault := s.ended.getD .deviceStop

/-- The checks before a fetch, in the order of 40_decoder.md R99, R100 and 60_exceptions.md R208: the guard on the interrupt
register (R90), the host's stop request (R207, log entry 19), the program-counter range check (R91). -/
def runGuard (s : State) : Option Fault :=
  if s.interruptRegister.isSet then some (stopReason s)
  else if s.stopRequested then some .hostStop
  else if pcInRange s then none
  else some .programCounterOverflow

/-- What an extension call sees (60_exceptions.md R216). -/
def extRequest (name : ExtName) (s : State) : Config.ExtRequest where
  name := name
  ports := s.ports
  dataBank := s.dataBank
  interruptRegister := s.interruptRegister.toBits

/-- The three pieces of state an extension may change, changed as its response says (44_io_system.md R189, 60_exceptions.md
R216). -/
def applyResponse (r : Config.ExtResponse) (s : State) : State :=
  { s with
    ports := s.ports.writeAll r.portWrites
    dataBank := s.dataBank.writeAll r.dataBankWrites
    interruptRegister := InterruptRegister.ofBits r.interruptRegister }

/-- One declared name: a warning when it is not registered, else one call of the extension (60_exceptions.md R215). -/
def dispatchOne (s : State) (name : ExtName) : State :=
  if s.registry.contains name then
    countDraw (applyResponse (Config.extProcess s.draws (extRequest name s)) s)
  else emit (.extensionMissing name) s

/-- The dispatcher: every declared name in load order, unconditionally (60_exceptions.md R215, 44_io_system.md R186). -/
def dispatchExtensions (s : State) : State := s.extNames.foldl dispatchOne s

end Machine

end Sys2Proof
end

