-- ==== Sys2Proof/Machine/Operands.lean ====
section
/-! DEFINITION. Operand resolution: the bus value `b` (40_decoder.md R94, R95). -/

namespace Sys2Proof.Machine

/-- The opcode is the store opcode, whose data field is an address and never dereferenced (40_decoder.md R95). -/
def isStore (i : Instr) : Bool := i.opcode == opc .sra

/-- The bus value: `Cache[(cache_page << 8) | d]` when `M = 1` and the opcode is not the store opcode, `d` otherwise, read
with the state before the instruction (40_decoder.md R94). Resolution reads only, so a handler that does not use its operand
leaves it out. -/
def busValue (i : Instr) (s : State) : Byte :=
  if i.memFlag && !isStore i then readCache s (eaCache s i.data) else i.data

end Sys2Proof.Machine
end

