-- ==== Sys2Proof/Machine/Flags.lean ====
section
/-! DEFINITION. The arithmetic, logic and shift results and the carry flag (42_logic.md, 43_arithmetic.md R150). Operands are
unsigned 8-bit values; the exact integer is computed first, the carry is read from it, and the result is its low 8 bits. -/

namespace Sys2Proof.Machine

/-- Addition with carry-in: the carry is 1 exactly when the exact sum exceeds 255 (43_arithmetic.md R150, R151). -/
def addCarry (a b : Byte) (cin : Bool) : Byte × Bool :=
  let t := a.toNat + b.toNat + cin.toNat
  (BitVec.ofNat 8 t, decide (255 < t))

/-- Subtraction with borrow-in: the carry is 1 exactly when the exact difference is negative (43_arithmetic.md R150,
R152). -/
def subBorrow (a b : Byte) (cin : Bool) : Byte × Bool :=
  let t : Int := (a.toNat : Int) - (b.toNat : Int) - (cin.toNat : Int)
  (BitVec.ofInt 8 t, decide (t < 0))

/-- Shift left through carry, any count: `t = (acc << b) | cin` on unbounded integers (42_logic.md R134, decision D10, log
entry 10). -/
def shiftLeftCarry (a b : Byte) (cin : Bool) : Byte × Bool :=
  let t := (a.toNat <<< b.toNat) ||| cin.toNat
  (BitVec.ofNat 8 t, decide (255 < t))

/-- Shift right through carry, any count: the carry says whether a shifted-out bit was 1 (42_logic.md R135, decision D11,
log entry 10). -/
def shiftRightCarry (a b : Byte) (cin : Bool) : Byte × Bool :=
  let lost := a.toNat &&& ((1 <<< b.toNat) - 1)
  (BitVec.ofNat 8 ((a.toNat >>> b.toNat) ||| (cin.toNat <<< 7)), decide (lost ≠ 0))

/-- Bitwise complement, `255 - acc` (42_logic.md R133). -/
def complement (a : Byte) : Byte := BitVec.ofNat 8 (255 - a.toNat)

/-- Unsigned comparison: 1, 0 or 255 for greater, equal or less (42_logic.md R137). -/
def compareUnsigned (a b : Byte) : Byte :=
  if b.toNat < a.toNat then 1 else if a.toNat = b.toNat then 0 else 255

/-- Signed comparison: the unsigned result, inverted when the sign bits differ (42_logic.md R136). -/
def compareSigned (a b : Byte) : Byte :=
  let u := compareUnsigned a b
  if a.getLsbD 7 != b.getLsbD 7 then
    (if u = 1 then 255 else if u = 255 then 1 else 0)
  else u

/-- Two's-complement negation when bit 7 is set (43_arithmetic.md R155). -/
def absolute (a : Byte) : Byte :=
  if a.getLsbD 7 then BitVec.ofNat 8 ((256 - a.toNat) % 256) else a

/-- The low byte of the unsigned product (43_arithmetic.md R156). -/
def productLow (a b : Byte) : Byte := BitVec.ofNat 8 (a.toNat * b.toNat)

/-- The high byte of the unsigned product (43_arithmetic.md R157). -/
def productHigh (a b : Byte) : Byte := BitVec.ofNat 8 ((a.toNat * b.toNat) >>> 8)

/-- The floor quotient; meant for a non-zero divisor (43_arithmetic.md R158). -/
def quotient (a b : Byte) : Byte := BitVec.ofNat 8 (a.toNat / b.toNat)

/-- The remainder; meant for a non-zero divisor (43_arithmetic.md R159). -/
def remainder (a b : Byte) : Byte := BitVec.ofNat 8 (a.toNat % b.toNat)

/-- The reciprocal table: 255 at 0, else `floor(255 / b)` (43_arithmetic.md R164). -/
def reciprocal (b : Byte) : Byte :=
  if b.toNat = 0 then 255 else BitVec.ofNat 8 (255 / b.toNat)

/-- The accumulator is negative: bit 7 is set (41_control.md R118). -/
def isNegative (a : Byte) : Bool := a.getLsbD 7

end Sys2Proof.Machine
end

