-- ==== Sys2Proof/Machine/Tables.lean ====
section
/-! DEFINITION. The sine and cosine tables of `TSE` and `TCE` (43_arithmetic.md R165, R166; decision D22, log entry 18). -/

namespace Sys2Proof.Machine

/-- `SIN_LUT`, sixteen entries a row (43_arithmetic.md R165). -/
def sinTable : List (List Byte) :=
  [[128, 131, 135, 139, 143, 147, 151, 155, 159, 163, 167, 170, 174, 178, 182, 185],
   [189, 192, 195, 199, 202, 205, 208, 211, 214, 217, 220, 223, 225, 228, 230, 233],
   [235, 237, 239, 241, 243, 244, 246, 247, 248, 250, 251, 252, 253, 253, 254, 254],
   [255, 255, 255, 255, 255, 255, 254, 254, 253, 252, 251, 250, 249, 248, 247, 245],
   [243, 242, 240, 238, 236, 234, 232, 229, 227, 224, 222, 219, 216, 213, 210, 207],
   [204, 201, 197, 194, 190, 187, 183, 180, 176, 172, 169, 165, 161, 157, 153, 149],
   [145, 142, 138, 134, 130, 126, 122, 118, 114, 110, 106, 102, 98, 94, 90, 87],
   [83, 79, 75, 72, 68, 65, 61, 58, 55, 51, 48, 45, 42, 39, 36, 34],
   [31, 28, 26, 24, 21, 19, 17, 15, 13, 12, 10, 9, 7, 6, 5, 4],
   [3, 2, 1, 1, 0, 0, 0, 0, 0, 0, 1, 1, 2, 2, 3, 4],
   [5, 6, 8, 9, 11, 12, 14, 16, 18, 20, 22, 25, 27, 29, 32, 35],
   [38, 40, 43, 46, 50, 53, 56, 59, 63, 66, 70, 73, 77, 81, 84, 88],
   [92, 96, 100, 103, 107, 111, 115, 119, 123, 127, 131, 135, 139, 143, 147, 151],
   [155, 159, 163, 166, 170, 174, 178, 181, 185, 188, 192, 195, 199, 202, 205, 208],
   [211, 214, 217, 220, 223, 225, 228, 230, 232, 235, 237, 239, 241, 242, 244, 246],
   [247, 248, 250, 251, 252, 253, 253, 254, 254, 255, 255, 255, 255, 255, 255, 254]]

/-- `COS_LUT`, sixteen entries a row (43_arithmetic.md R166). -/
def cosTable : List (List Byte) :=
  [[255, 255, 255, 254, 254, 253, 253, 252, 251, 250, 249, 248, 246, 245, 243, 241],
   [239, 237, 235, 233, 231, 229, 226, 223, 221, 218, 215, 212, 209, 206, 203, 200],
   [196, 193, 190, 186, 182, 179, 175, 171, 168, 164, 160, 156, 152, 148, 144, 140],
   [137, 133, 129, 125, 121, 117, 113, 109, 105, 101, 97, 93, 89, 86, 82, 78],
   [74, 71, 67, 64, 60, 57, 54, 51, 47, 44, 41, 38, 36, 33, 30, 28],
   [25, 23, 21, 19, 17, 15, 13, 11, 10, 8, 7, 6, 5, 4, 3, 2],
   [1, 1, 0, 0, 0, 0, 0, 0, 1, 1, 2, 3, 3, 4, 6, 7],
   [8, 10, 11, 13, 15, 17, 19, 21, 23, 25, 28, 30, 33, 35, 38, 41],
   [44, 47, 50, 54, 57, 60, 64, 67, 71, 74, 78, 82, 85, 89, 93, 97],
   [101, 105, 108, 112, 116, 120, 124, 128, 132, 136, 140, 144, 148, 152, 156, 160],
   [164, 167, 171, 175, 179, 182, 186, 189, 193, 196, 200, 203, 206, 209, 212, 215],
   [218, 221, 223, 226, 228, 231, 233, 235, 237, 239, 241, 243, 245, 246, 247, 249],
   [250, 251, 252, 253, 253, 254, 254, 255, 255, 255, 255, 255, 254, 254, 253, 253],
   [252, 251, 250, 249, 248, 246, 245, 243, 241, 240, 238, 235, 233, 231, 229, 226],
   [224, 221, 218, 215, 212, 209, 206, 203, 200, 197, 193, 190, 186, 183, 179, 175],
   [172, 168, 164, 160, 156, 153, 149, 145, 141, 137, 133, 129, 125, 121, 117, 113]]

/-- `SIN_LUT[i]`; the table has an entry for every index (43_arithmetic.md R160, R165). -/
def sinLut (i : Byte) : Byte := (sinTable.getD (i.toNat / 16) []).getD (i.toNat % 16) 0

/-- `COS_LUT[i]`; the table has an entry for every index (43_arithmetic.md R161, R166). -/
def cosLut (i : Byte) : Byte := (cosTable.getD (i.toNat / 16) []).getD (i.toNat % 16) 0

end Sys2Proof.Machine
end

