-- ==== Sys2Proof/Machine/Arithmetic.lean ====
section
/-! DEFINITION. The arithmetic and table-lookup instructions (43_arithmetic.md). -/

namespace Sys2Proof.Machine

/-- R151: `acc + b + cin`. -/
def execAdc (m : Bool) (d : Byte) (s : State) : Host.Outcome State Fault Refusal :=
  retire (.adc m d) (advance (setAccCarry (addCarry s.acc (busValue (.adc m d) s) s.carryFlag) s))

/-- R152: `acc - b - cin`. -/
def execSbc (m : Bool) (d : Byte) (s : State) : Host.Outcome State Fault Refusal :=
  retire (.sbc m d) (advance (setAccCarry (subBorrow s.acc (busValue (.sbc m d) s) s.carryFlag) s))

/-- R153: `acc + 1`; neither the operand nor the carry-in is used (log entry 9). -/
def execInc (m : Bool) (d : Byte) (s : State) : Host.Outcome State Fault Refusal :=
  retire (.inc m d) (advance (setAccCarry (addCarry s.acc 1 false) s))

/-- R154: `acc - 1`; neither the operand nor the carry-in is used (log entry 9). -/
def execDec (m : Bool) (d : Byte) (s : State) : Host.Outcome State Fault Refusal :=
  retire (.dec m d) (advance (setAccCarry (subBorrow s.acc 1 false) s))

/-- R155: two's-complement negation when bit 7 of `acc` is set. -/
def execAbs (m : Bool) (d : Byte) (s : State) : Host.Outcome State Fault Refusal :=
  retire (.abs m d) (advance (setAcc (absolute s.acc) s))

/-- R156: the low byte of `acc * b`; the carry flag is unchanged. -/
def execMul (m : Bool) (d : Byte) (s : State) : Host.Outcome State Fault Refusal :=
  retire (.mul m d) (advance (setAcc (productLow s.acc (busValue (.mul m d) s)) s))

/-- R158: the floor quotient; a zero divisor is treated as `DIV0_POLICY` says: the fault `DivideByZero` with `acc` and `pc`
unchanged (log entry 5). -/
def execDiv (m : Bool) (d : Byte) (s : State) : Host.Outcome State Fault Refusal :=
  if (busValue (.div m d) s) = 0 then retire (.div m d) (zeroDivisor (opc .div) s)
  else retire (.div m d) (advance (setAcc (quotient s.acc (busValue (.div m d) s)) s))

/-- R159: the remainder; a zero divisor is treated as `DIV0_POLICY` says: the fault `DivideByZero` with `acc` and `pc`
unchanged (log entry 5). -/
def execMod (m : Bool) (d : Byte) (s : State) : Host.Outcome State Fault Refusal :=
  if (busValue (.mod m d) s) = 0 then retire (.mod m d) (zeroDivisor (opc .mod) s)
  else retire (.mod m d) (advance (setAcc (remainder s.acc (busValue (.mod m d) s)) s))

/-- R160: `acc <- SIN_LUT[acc]`. -/
def execTse (m : Bool) (d : Byte) (s : State) : Host.Outcome State Fault Refusal :=
  retire (.tse m d) (advance (setAcc (sinLut s.acc) s))

/-- R161: `acc <- COS_LUT[acc]`. -/
def execTce (m : Bool) (d : Byte) (s : State) : Host.Outcome State Fault Refusal :=
  retire (.tce m d) (advance (setAcc (cosLut s.acc) s))

/-- R162: `acc + b`; the carry-in is not added (log entry 22). -/
def execAdd (m : Bool) (d : Byte) (s : State) : Host.Outcome State Fault Refusal :=
  retire (.add m d) (advance (setAccCarry (addCarry s.acc (busValue (.add m d) s) false) s))

/-- R163: `acc - b`; the carry-in is not subtracted (log entry 22). -/
def execSub (m : Bool) (d : Byte) (s : State) : Host.Outcome State Fault Refusal :=
  retire (.sub m d) (advance (setAccCarry (subBorrow s.acc (busValue (.sub m d) s) false) s))

/-- R164: `acc <- 255` when `b = 0`, else `floor(255 / b)`. -/
def execRpl (m : Bool) (d : Byte) (s : State) : Host.Outcome State Fault Refusal :=
  retire (.rpl m d) (advance (setAcc (reciprocal (busValue (.rpl m d) s)) s))

/-- R157: the high byte of `acc * b`; the carry flag is unchanged. -/
def execMulh (m : Bool) (d : Byte) (s : State) : Host.Outcome State Fault Refusal :=
  retire (.mulh m d) (advance (setAcc (productHigh s.acc (busValue (.mulh m d) s)) s))

end Sys2Proof.Machine
end

