-- ==== Sys2Proof/Machine/Control.lean ====
section
/-! DEFINITION. The control, data-move, paging and stack instructions (41_control.md). Each definition resolves the operand with the
state before the instruction, writes what its rule writes, sets `pc`, and is counted (40_decoder.md R100). -/

namespace Sys2Proof.Machine

/-- R110: `pc <- pc + 1`; the operand is resolved and discarded. -/
def execNop (m : Bool) (d : Byte) (s : State) : Host.Outcome State Fault Refusal :=
  retire (.nop m d) (advance s)

/-- R111: `acc <- b`. -/
def execLra (m : Bool) (d : Byte) (s : State) : Host.Outcome State Fault Refusal :=
  retire (.lra m d) (advance (setAcc (busValue (.lra m d) s) s))

/-- R112: `Cache[(cache_page << 8) | d] <- acc`, whatever `M` is. -/
def execSra (m : Bool) (d : Byte) (s : State) : Host.Outcome State Fault Refusal :=
  retire (.sra m d) (advance (writeCache (eaCache s d) s.acc s))

/-- R113: pushes `pc + CALL_LINK_OFFSET` on the address stack and jumps (log entry 15). -/
def execCall (m : Bool) (d : Byte) (s : State) : Host.Outcome State Fault Refusal :=
  retire (.call m d) (jumpTo (eaRom s (busValue (.call m d) s)) (pushAdr (callLink s) s))

/-- R114: pops the address stack into `pc` and loads `acc` with `b` (log entry 16). -/
def execRet (m : Bool) (d : Byte) (s : State) : Host.Outcome State Fault Refusal :=
  retire (.ret m d) (setAcc (busValue (.ret m d) s) (jumpTo (topAdr (dropAdr s)) (dropAdr s)))

/-- R115: `pc <- (rom_page << 8) | b`. -/
def execJmp (m : Bool) (d : Byte) (s : State) : Host.Outcome State Fault Refusal :=
  retire (.jmp m d) (jumpTo (eaRom s (busValue (.jmp m d) s)) s)

/-- R116: jumps when `acc != 0`, bit 7 set or not (log entry 21). -/
def execJmpp (m : Bool) (d : Byte) (s : State) : Host.Outcome State Fault Refusal :=
  retire (.jmpp m d) (jumpIf (s.acc != 0) (busValue (.jmpp m d) s) s)

/-- R117: jumps when `acc == 0`. -/
def execJmpz (m : Bool) (d : Byte) (s : State) : Host.Outcome State Fault Refusal :=
  retire (.jmpz m d) (jumpIf (s.acc == 0) (busValue (.jmpz m d) s) s)

/-- R118: jumps when bit 7 of `acc` is set. -/
def execJmpn (m : Bool) (d : Byte) (s : State) : Host.Outcome State Fault Refusal :=
  retire (.jmpn m d) (jumpIf (isNegative s.acc) (busValue (.jmpn m d) s) s)

/-- R119: jumps when `carry_flag` is set and leaves the flag. -/
def execJmpc (m : Bool) (d : Byte) (s : State) : Host.Outcome State Fault Refusal :=
  retire (.jmpc m d) (jumpIf s.carryFlag (busValue (.jmpc m d) s) s)

/-- R120: `carry_flag <- 0`. -/
def execCcf (m : Bool) (d : Byte) (s : State) : Host.Outcome State Fault Refusal :=
  retire (.ccf m d) (advance (setCarry false s))

/-- R121: `acc <- Cache[(cache_page << 8) | acc]`. -/
def execLrp (m : Bool) (d : Byte) (s : State) : Host.Outcome State Fault Refusal :=
  retire (.lrp m d) (advance (setAcc (readCache s (eaCache s s.acc)) s))

/-- R122: `cache_page <- b`, the operand read through the old page. -/
def execCcp (m : Bool) (d : Byte) (s : State) : Host.Outcome State Fault Refusal :=
  retire (.ccp m d) (advance (setCachePage (busValue (.ccp m d) s) s))

/-- R123: `rom_page <- b`; control continues at `pc + 1`. -/
def execCrp (m : Bool) (d : Byte) (s : State) : Host.Outcome State Fault Refusal :=
  retire (.crp m d) (advance (setRomPage (busValue (.crp m d) s) s))

/-- R124: pushes `acc` on the accumulator stack. -/
def execPush (m : Bool) (d : Byte) (s : State) : Host.Outcome State Fault Refusal :=
  retire (.push m d) (advance (pushAcc s.acc s))

/-- R125: pops the accumulator stack into `acc`. -/
def execPop (m : Bool) (d : Byte) (s : State) : Host.Outcome State Fault Refusal :=
  retire (.pop m d) (advance (setAcc (topAcc (dropAcc s)) (dropAcc s)))

end Sys2Proof.Machine
end

