-- ==== Sys2Proof/Machine/Illegal.lean ====
section
/-! DEFINITION. The handler of the 82 unmapped opcodes, once per row of the opcode table (44_io_system.md R188). -/

namespace Sys2Proof.Machine

/-- R188, R202: the illegal-instruction handler, the one behaviour of every unmapped opcode. -/
def illegalInstruction (i : Instr) (s : State) : Host.Outcome State Fault Refusal :=
  retire i (raise .illegalInstruction s)

/-- R188: the unmapped opcode 24. -/
def execIllegal24 (m : Bool) (d : Byte) (s : State) : Host.Outcome State Fault Refusal :=
  illegalInstruction (.illegal24 m d) s

/-- R188: the unmapped opcode 25. -/
def execIllegal25 (m : Bool) (d : Byte) (s : State) : Host.Outcome State Fault Refusal :=
  illegalInstruction (.illegal25 m d) s

/-- R188: the unmapped opcode 26. -/
def execIllegal26 (m : Bool) (d : Byte) (s : State) : Host.Outcome State Fault Refusal :=
  illegalInstruction (.illegal26 m d) s

/-- R188: the unmapped opcode 27. -/
def execIllegal27 (m : Bool) (d : Byte) (s : State) : Host.Outcome State Fault Refusal :=
  illegalInstruction (.illegal27 m d) s

/-- R188: the unmapped opcode 28. -/
def execIllegal28 (m : Bool) (d : Byte) (s : State) : Host.Outcome State Fault Refusal :=
  illegalInstruction (.illegal28 m d) s

/-- R188: the unmapped opcode 29. -/
def execIllegal29 (m : Bool) (d : Byte) (s : State) : Host.Outcome State Fault Refusal :=
  illegalInstruction (.illegal29 m d) s

/-- R188: the unmapped opcode 30. -/
def execIllegal30 (m : Bool) (d : Byte) (s : State) : Host.Outcome State Fault Refusal :=
  illegalInstruction (.illegal30 m d) s

/-- R188: the unmapped opcode 31. -/
def execIllegal31 (m : Bool) (d : Byte) (s : State) : Host.Outcome State Fault Refusal :=
  illegalInstruction (.illegal31 m d) s

/-- R188: the unmapped opcode 46. -/
def execIllegal46 (m : Bool) (d : Byte) (s : State) : Host.Outcome State Fault Refusal :=
  illegalInstruction (.illegal46 m d) s

/-- R188: the unmapped opcode 47. -/
def execIllegal47 (m : Bool) (d : Byte) (s : State) : Host.Outcome State Fault Refusal :=
  illegalInstruction (.illegal47 m d) s

/-- R188: the unmapped opcode 52. -/
def execIllegal52 (m : Bool) (d : Byte) (s : State) : Host.Outcome State Fault Refusal :=
  illegalInstruction (.illegal52 m d) s

/-- R188: the unmapped opcode 53. -/
def execIllegal53 (m : Bool) (d : Byte) (s : State) : Host.Outcome State Fault Refusal :=
  illegalInstruction (.illegal53 m d) s

/-- R188: the unmapped opcode 54. -/
def execIllegal54 (m : Bool) (d : Byte) (s : State) : Host.Outcome State Fault Refusal :=
  illegalInstruction (.illegal54 m d) s

/-- R188: the unmapped opcode 55. -/
def execIllegal55 (m : Bool) (d : Byte) (s : State) : Host.Outcome State Fault Refusal :=
  illegalInstruction (.illegal55 m d) s

/-- R188: the unmapped opcode 56. -/
def execIllegal56 (m : Bool) (d : Byte) (s : State) : Host.Outcome State Fault Refusal :=
  illegalInstruction (.illegal56 m d) s

/-- R188: the unmapped opcode 57. -/
def execIllegal57 (m : Bool) (d : Byte) (s : State) : Host.Outcome State Fault Refusal :=
  illegalInstruction (.illegal57 m d) s

/-- R188: the unmapped opcode 58. -/
def execIllegal58 (m : Bool) (d : Byte) (s : State) : Host.Outcome State Fault Refusal :=
  illegalInstruction (.illegal58 m d) s

/-- R188: the unmapped opcode 59. -/
def execIllegal59 (m : Bool) (d : Byte) (s : State) : Host.Outcome State Fault Refusal :=
  illegalInstruction (.illegal59 m d) s

/-- R188: the unmapped opcode 60. -/
def execIllegal60 (m : Bool) (d : Byte) (s : State) : Host.Outcome State Fault Refusal :=
  illegalInstruction (.illegal60 m d) s

/-- R188: the unmapped opcode 61. -/
def execIllegal61 (m : Bool) (d : Byte) (s : State) : Host.Outcome State Fault Refusal :=
  illegalInstruction (.illegal61 m d) s

/-- R188: the unmapped opcode 62. -/
def execIllegal62 (m : Bool) (d : Byte) (s : State) : Host.Outcome State Fault Refusal :=
  illegalInstruction (.illegal62 m d) s

/-- R188: the unmapped opcode 63. -/
def execIllegal63 (m : Bool) (d : Byte) (s : State) : Host.Outcome State Fault Refusal :=
  illegalInstruction (.illegal63 m d) s

/-- R188: the unmapped opcode 64. -/
def execIllegal64 (m : Bool) (d : Byte) (s : State) : Host.Outcome State Fault Refusal :=
  illegalInstruction (.illegal64 m d) s

/-- R188: the unmapped opcode 65. -/
def execIllegal65 (m : Bool) (d : Byte) (s : State) : Host.Outcome State Fault Refusal :=
  illegalInstruction (.illegal65 m d) s

/-- R188: the unmapped opcode 66. -/
def execIllegal66 (m : Bool) (d : Byte) (s : State) : Host.Outcome State Fault Refusal :=
  illegalInstruction (.illegal66 m d) s

/-- R188: the unmapped opcode 67. -/
def execIllegal67 (m : Bool) (d : Byte) (s : State) : Host.Outcome State Fault Refusal :=
  illegalInstruction (.illegal67 m d) s

/-- R188: the unmapped opcode 68. -/
def execIllegal68 (m : Bool) (d : Byte) (s : State) : Host.Outcome State Fault Refusal :=
  illegalInstruction (.illegal68 m d) s

/-- R188: the unmapped opcode 69. -/
def execIllegal69 (m : Bool) (d : Byte) (s : State) : Host.Outcome State Fault Refusal :=
  illegalInstruction (.illegal69 m d) s

/-- R188: the unmapped opcode 70. -/
def execIllegal70 (m : Bool) (d : Byte) (s : State) : Host.Outcome State Fault Refusal :=
  illegalInstruction (.illegal70 m d) s

/-- R188: the unmapped opcode 71. -/
def execIllegal71 (m : Bool) (d : Byte) (s : State) : Host.Outcome State Fault Refusal :=
  illegalInstruction (.illegal71 m d) s

/-- R188: the unmapped opcode 72. -/
def execIllegal72 (m : Bool) (d : Byte) (s : State) : Host.Outcome State Fault Refusal :=
  illegalInstruction (.illegal72 m d) s

/-- R188: the unmapped opcode 73. -/
def execIllegal73 (m : Bool) (d : Byte) (s : State) : Host.Outcome State Fault Refusal :=
  illegalInstruction (.illegal73 m d) s

/-- R188: the unmapped opcode 74. -/
def execIllegal74 (m : Bool) (d : Byte) (s : State) : Host.Outcome State Fault Refusal :=
  illegalInstruction (.illegal74 m d) s

/-- R188: the unmapped opcode 75. -/
def execIllegal75 (m : Bool) (d : Byte) (s : State) : Host.Outcome State Fault Refusal :=
  illegalInstruction (.illegal75 m d) s

/-- R188: the unmapped opcode 76. -/
def execIllegal76 (m : Bool) (d : Byte) (s : State) : Host.Outcome State Fault Refusal :=
  illegalInstruction (.illegal76 m d) s

/-- R188: the unmapped opcode 77. -/
def execIllegal77 (m : Bool) (d : Byte) (s : State) : Host.Outcome State Fault Refusal :=
  illegalInstruction (.illegal77 m d) s

/-- R188: the unmapped opcode 78. -/
def execIllegal78 (m : Bool) (d : Byte) (s : State) : Host.Outcome State Fault Refusal :=
  illegalInstruction (.illegal78 m d) s

/-- R188: the unmapped opcode 79. -/
def execIllegal79 (m : Bool) (d : Byte) (s : State) : Host.Outcome State Fault Refusal :=
  illegalInstruction (.illegal79 m d) s

/-- R188: the unmapped opcode 80. -/
def execIllegal80 (m : Bool) (d : Byte) (s : State) : Host.Outcome State Fault Refusal :=
  illegalInstruction (.illegal80 m d) s

/-- R188: the unmapped opcode 81. -/
def execIllegal81 (m : Bool) (d : Byte) (s : State) : Host.Outcome State Fault Refusal :=
  illegalInstruction (.illegal81 m d) s

/-- R188: the unmapped opcode 82. -/
def execIllegal82 (m : Bool) (d : Byte) (s : State) : Host.Outcome State Fault Refusal :=
  illegalInstruction (.illegal82 m d) s

/-- R188: the unmapped opcode 83. -/
def execIllegal83 (m : Bool) (d : Byte) (s : State) : Host.Outcome State Fault Refusal :=
  illegalInstruction (.illegal83 m d) s

/-- R188: the unmapped opcode 84. -/
def execIllegal84 (m : Bool) (d : Byte) (s : State) : Host.Outcome State Fault Refusal :=
  illegalInstruction (.illegal84 m d) s

/-- R188: the unmapped opcode 85. -/
def execIllegal85 (m : Bool) (d : Byte) (s : State) : Host.Outcome State Fault Refusal :=
  illegalInstruction (.illegal85 m d) s

/-- R188: the unmapped opcode 86. -/
def execIllegal86 (m : Bool) (d : Byte) (s : State) : Host.Outcome State Fault Refusal :=
  illegalInstruction (.illegal86 m d) s

/-- R188: the unmapped opcode 87. -/
def execIllegal87 (m : Bool) (d : Byte) (s : State) : Host.Outcome State Fault Refusal :=
  illegalInstruction (.illegal87 m d) s

/-- R188: the unmapped opcode 88. -/
def execIllegal88 (m : Bool) (d : Byte) (s : State) : Host.Outcome State Fault Refusal :=
  illegalInstruction (.illegal88 m d) s

/-- R188: the unmapped opcode 89. -/
def execIllegal89 (m : Bool) (d : Byte) (s : State) : Host.Outcome State Fault Refusal :=
  illegalInstruction (.illegal89 m d) s

/-- R188: the unmapped opcode 90. -/
def execIllegal90 (m : Bool) (d : Byte) (s : State) : Host.Outcome State Fault Refusal :=
  illegalInstruction (.illegal90 m d) s

/-- R188: the unmapped opcode 91. -/
def execIllegal91 (m : Bool) (d : Byte) (s : State) : Host.Outcome State Fault Refusal :=
  illegalInstruction (.illegal91 m d) s

/-- R188: the unmapped opcode 92. -/
def execIllegal92 (m : Bool) (d : Byte) (s : State) : Host.Outcome State Fault Refusal :=
  illegalInstruction (.illegal92 m d) s

/-- R188: the unmapped opcode 93. -/
def execIllegal93 (m : Bool) (d : Byte) (s : State) : Host.Outcome State Fault Refusal :=
  illegalInstruction (.illegal93 m d) s

/-- R188: the unmapped opcode 94. -/
def execIllegal94 (m : Bool) (d : Byte) (s : State) : Host.Outcome State Fault Refusal :=
  illegalInstruction (.illegal94 m d) s

/-- R188: the unmapped opcode 95. -/
def execIllegal95 (m : Bool) (d : Byte) (s : State) : Host.Outcome State Fault Refusal :=
  illegalInstruction (.illegal95 m d) s

/-- R188: the unmapped opcode 96. -/
def execIllegal96 (m : Bool) (d : Byte) (s : State) : Host.Outcome State Fault Refusal :=
  illegalInstruction (.illegal96 m d) s

/-- R188: the unmapped opcode 97. -/
def execIllegal97 (m : Bool) (d : Byte) (s : State) : Host.Outcome State Fault Refusal :=
  illegalInstruction (.illegal97 m d) s

/-- R188: the unmapped opcode 98. -/
def execIllegal98 (m : Bool) (d : Byte) (s : State) : Host.Outcome State Fault Refusal :=
  illegalInstruction (.illegal98 m d) s

/-- R188: the unmapped opcode 99. -/
def execIllegal99 (m : Bool) (d : Byte) (s : State) : Host.Outcome State Fault Refusal :=
  illegalInstruction (.illegal99 m d) s

/-- R188: the unmapped opcode 100. -/
def execIllegal100 (m : Bool) (d : Byte) (s : State) : Host.Outcome State Fault Refusal :=
  illegalInstruction (.illegal100 m d) s

/-- R188: the unmapped opcode 101. -/
def execIllegal101 (m : Bool) (d : Byte) (s : State) : Host.Outcome State Fault Refusal :=
  illegalInstruction (.illegal101 m d) s

/-- R188: the unmapped opcode 102. -/
def execIllegal102 (m : Bool) (d : Byte) (s : State) : Host.Outcome State Fault Refusal :=
  illegalInstruction (.illegal102 m d) s

/-- R188: the unmapped opcode 103. -/
def execIllegal103 (m : Bool) (d : Byte) (s : State) : Host.Outcome State Fault Refusal :=
  illegalInstruction (.illegal103 m d) s

/-- R188: the unmapped opcode 104. -/
def execIllegal104 (m : Bool) (d : Byte) (s : State) : Host.Outcome State Fault Refusal :=
  illegalInstruction (.illegal104 m d) s

/-- R188: the unmapped opcode 105. -/
def execIllegal105 (m : Bool) (d : Byte) (s : State) : Host.Outcome State Fault Refusal :=
  illegalInstruction (.illegal105 m d) s

/-- R188: the unmapped opcode 106. -/
def execIllegal106 (m : Bool) (d : Byte) (s : State) : Host.Outcome State Fault Refusal :=
  illegalInstruction (.illegal106 m d) s

/-- R188: the unmapped opcode 107. -/
def execIllegal107 (m : Bool) (d : Byte) (s : State) : Host.Outcome State Fault Refusal :=
  illegalInstruction (.illegal107 m d) s

/-- R188: the unmapped opcode 108. -/
def execIllegal108 (m : Bool) (d : Byte) (s : State) : Host.Outcome State Fault Refusal :=
  illegalInstruction (.illegal108 m d) s

/-- R188: the unmapped opcode 109. -/
def execIllegal109 (m : Bool) (d : Byte) (s : State) : Host.Outcome State Fault Refusal :=
  illegalInstruction (.illegal109 m d) s

/-- R188: the unmapped opcode 110. -/
def execIllegal110 (m : Bool) (d : Byte) (s : State) : Host.Outcome State Fault Refusal :=
  illegalInstruction (.illegal110 m d) s

/-- R188: the unmapped opcode 111. -/
def execIllegal111 (m : Bool) (d : Byte) (s : State) : Host.Outcome State Fault Refusal :=
  illegalInstruction (.illegal111 m d) s

/-- R188: the unmapped opcode 114. -/
def execIllegal114 (m : Bool) (d : Byte) (s : State) : Host.Outcome State Fault Refusal :=
  illegalInstruction (.illegal114 m d) s

/-- R188: the unmapped opcode 115. -/
def execIllegal115 (m : Bool) (d : Byte) (s : State) : Host.Outcome State Fault Refusal :=
  illegalInstruction (.illegal115 m d) s

/-- R188: the unmapped opcode 116. -/
def execIllegal116 (m : Bool) (d : Byte) (s : State) : Host.Outcome State Fault Refusal :=
  illegalInstruction (.illegal116 m d) s

/-- R188: the unmapped opcode 117. -/
def execIllegal117 (m : Bool) (d : Byte) (s : State) : Host.Outcome State Fault Refusal :=
  illegalInstruction (.illegal117 m d) s

/-- R188: the unmapped opcode 118. -/
def execIllegal118 (m : Bool) (d : Byte) (s : State) : Host.Outcome State Fault Refusal :=
  illegalInstruction (.illegal118 m d) s

/-- R188: the unmapped opcode 119. -/
def execIllegal119 (m : Bool) (d : Byte) (s : State) : Host.Outcome State Fault Refusal :=
  illegalInstruction (.illegal119 m d) s

/-- R188: the unmapped opcode 120. -/
def execIllegal120 (m : Bool) (d : Byte) (s : State) : Host.Outcome State Fault Refusal :=
  illegalInstruction (.illegal120 m d) s

/-- R188: the unmapped opcode 121. -/
def execIllegal121 (m : Bool) (d : Byte) (s : State) : Host.Outcome State Fault Refusal :=
  illegalInstruction (.illegal121 m d) s

/-- R188: the unmapped opcode 122. -/
def execIllegal122 (m : Bool) (d : Byte) (s : State) : Host.Outcome State Fault Refusal :=
  illegalInstruction (.illegal122 m d) s

/-- R188: the unmapped opcode 123. -/
def execIllegal123 (m : Bool) (d : Byte) (s : State) : Host.Outcome State Fault Refusal :=
  illegalInstruction (.illegal123 m d) s

/-- R188: the unmapped opcode 124. -/
def execIllegal124 (m : Bool) (d : Byte) (s : State) : Host.Outcome State Fault Refusal :=
  illegalInstruction (.illegal124 m d) s

/-- R188: the unmapped opcode 125. -/
def execIllegal125 (m : Bool) (d : Byte) (s : State) : Host.Outcome State Fault Refusal :=
  illegalInstruction (.illegal125 m d) s

end Sys2Proof.Machine
end

