-- ==== Sys2Proof/Machine/Logic.lean ====
section
/-! DEFINITION. The logic, shift and compare instructions (42_logic.md). -/

namespace Sys2Proof.Machine

/-- R130: `acc <- acc & b` (log entry 8). -/
def execAnd (m : Bool) (d : Byte) (s : State) : Host.Outcome State Fault Refusal :=
  retire (.and m d) (advance (setAcc (s.acc &&& busValue (.and m d) s) s))

/-- R131: `acc <- acc | b` (log entry 8). -/
def execOr (m : Bool) (d : Byte) (s : State) : Host.Outcome State Fault Refusal :=
  retire (.or m d) (advance (setAcc (s.acc ||| busValue (.or m d) s) s))

/-- R132: `acc <- acc ^ b` (log entry 8). -/
def execXor (m : Bool) (d : Byte) (s : State) : Host.Outcome State Fault Refusal :=
  retire (.xor m d) (advance (setAcc (s.acc ^^^ busValue (.xor m d) s) s))

/-- R133: `acc <- 255 - acc`; the operand is not used (log entry 8). -/
def execNot (m : Bool) (d : Byte) (s : State) : Host.Outcome State Fault Refusal :=
  retire (.not m d) (advance (setAcc (complement s.acc) s))

/-- R134: shift left by `b` through carry (log entry 10). -/
def execLsc (m : Bool) (d : Byte) (s : State) : Host.Outcome State Fault Refusal :=
  retire (.lsc m d) (advance (setAccCarry (shiftLeftCarry s.acc (busValue (.lsc m d) s) s.carryFlag) s))

/-- R135: shift right by `b` through carry (log entry 10). -/
def execRsc (m : Bool) (d : Byte) (s : State) : Host.Outcome State Fault Refusal :=
  retire (.rsc m d) (advance (setAccCarry (shiftRightCarry s.acc (busValue (.rsc m d) s) s.carryFlag) s))

/-- R136: `acc` becomes 1, 0 or 255 by the two's-complement order (log entry 11). -/
def execCmp (m : Bool) (d : Byte) (s : State) : Host.Outcome State Fault Refusal :=
  retire (.cmp m d) (advance (setAcc (compareSigned s.acc (busValue (.cmp m d) s)) s))

/-- R137: `acc` becomes 1, 0 or 255 by the unsigned order (log entry 11). -/
def execCmpu (m : Bool) (d : Byte) (s : State) : Host.Outcome State Fault Refusal :=
  retire (.cmpu m d) (advance (setAcc (compareUnsigned s.acc (busValue (.cmpu m d) s)) s))

end Sys2Proof.Machine
end

