-- ==== Sys2Proof/Machine/System.lean ====
section
/-! DEFINITION. The console, port, interrupt and halt instructions (44_io_system.md). -/

namespace Sys2Proof.Machine

/-- R180: `acc` becomes the byte the host answers, a free value (log entry 12). -/
def execUi (m : Bool) (d : Byte) (s : State) : Host.Outcome State Fault Refusal :=
  retire (.ui m d) (advance (countDraw (setAcc (Config.consoleIn s.draws) s)))

/-- R181: emits `ConsoleOut(UO, acc, b)` (log entry 12). -/
def execUo (m : Bool) (d : Byte) (s : State) : Host.Outcome State Fault Refusal :=
  retire (.uo m d) (advance (emit (.consoleOut .uo s.acc (busValue (.uo m d) s)) s))

/-- R182: emits `ConsoleOut(UOC, acc, b)` (log entry 12). -/
def execUoc (m : Bool) (d : Byte) (s : State) : Host.Outcome State Fault Refusal :=
  retire (.uoc m d) (advance (emit (.consoleOut .uoc s.acc (busValue (.uoc m d) s)) s))

/-- R183: emits `ConsoleOut(UOCR, acc, b)` (log entry 12). -/
def execUocr (m : Bool) (d : Byte) (s : State) : Host.Outcome State Fault Refusal :=
  retire (.uocr m d) (advance (emit (.consoleOut .uocr s.acc (busValue (.uocr m d) s)) s))

/-- R184: `Ports[d] <- acc`, whatever `M` is (log entry 20). -/
def execPrw (m : Bool) (d : Byte) (s : State) : Host.Outcome State Fault Refusal :=
  retire (.prw m d) (advance (writePort d s.acc s))

/-- R185: `acc <- Ports[d]`, whatever `M` is (log entry 20). -/
def execPrr (m : Bool) (d : Byte) (s : State) : Host.Outcome State Fault Refusal :=
  retire (.prr m d) (advance (setAcc (readPort s d) s))

/-- R186: raises `InterruptFatal` when no extension is declared, else calls the dispatcher and goes on, even when an
extension has set a bit of the interrupt register (log entry 13). -/
def execInt (m : Bool) (d : Byte) (s : State) : Host.Outcome State Fault Refusal :=
  if s.extNames = [] then retire (.int m d) (raise .interruptFatal s)
  else retire (.int m d) (advance (dispatchExtensions s))

/-- R187: raises `Halt`; `pc` keeps addressing the `HALT` (log entry 24). -/
def execHalt (m : Bool) (d : Byte) (s : State) : Host.Outcome State Fault Refusal :=
  retire (.halt m d) (raise .halt s)

end Sys2Proof.Machine
end

