-- ==== Sys2Proof/Machine/Dispatch.lean ====
section
/-! DEFINITION. The dispatch table (40_decoder.md R96): one arm per row of the opcode table. -/

namespace Sys2Proof.Machine

def exec (i : Instr) (s : State) : Host.Outcome State Fault Refusal :=
  match i with
  | .nop m d => Sys2Proof.Machine.execNop m d s
  | .lra m d => Sys2Proof.Machine.execLra m d s
  | .sra m d => Sys2Proof.Machine.execSra m d s
  | .call m d => Sys2Proof.Machine.execCall m d s
  | .ret m d => Sys2Proof.Machine.execRet m d s
  | .jmp m d => Sys2Proof.Machine.execJmp m d s
  | .jmpp m d => Sys2Proof.Machine.execJmpp m d s
  | .jmpz m d => Sys2Proof.Machine.execJmpz m d s
  | .jmpn m d => Sys2Proof.Machine.execJmpn m d s
  | .jmpc m d => Sys2Proof.Machine.execJmpc m d s
  | .ccf m d => Sys2Proof.Machine.execCcf m d s
  | .lrp m d => Sys2Proof.Machine.execLrp m d s
  | .ccp m d => Sys2Proof.Machine.execCcp m d s
  | .crp m d => Sys2Proof.Machine.execCrp m d s
  | .push m d => Sys2Proof.Machine.execPush m d s
  | .pop m d => Sys2Proof.Machine.execPop m d s
  | .and m d => Sys2Proof.Machine.execAnd m d s
  | .or m d => Sys2Proof.Machine.execOr m d s
  | .xor m d => Sys2Proof.Machine.execXor m d s
  | .not m d => Sys2Proof.Machine.execNot m d s
  | .lsc m d => Sys2Proof.Machine.execLsc m d s
  | .rsc m d => Sys2Proof.Machine.execRsc m d s
  | .cmp m d => Sys2Proof.Machine.execCmp m d s
  | .cmpu m d => Sys2Proof.Machine.execCmpu m d s
  | .adc m d => Sys2Proof.Machine.execAdc m d s
  | .sbc m d => Sys2Proof.Machine.execSbc m d s
  | .inc m d => Sys2Proof.Machine.execInc m d s
  | .dec m d => Sys2Proof.Machine.execDec m d s
  | .abs m d => Sys2Proof.Machine.execAbs m d s
  | .mul m d => Sys2Proof.Machine.execMul m d s
  | .div m d => Sys2Proof.Machine.execDiv m d s
  | .mod m d => Sys2Proof.Machine.execMod m d s
  | .tse m d => Sys2Proof.Machine.execTse m d s
  | .tce m d => Sys2Proof.Machine.execTce m d s
  | .add m d => Sys2Proof.Machine.execAdd m d s
  | .sub m d => Sys2Proof.Machine.execSub m d s
  | .rpl m d => Sys2Proof.Machine.execRpl m d s
  | .mulh m d => Sys2Proof.Machine.execMulh m d s
  | .ui m d => Sys2Proof.Machine.execUi m d s
  | .uo m d => Sys2Proof.Machine.execUo m d s
  | .uoc m d => Sys2Proof.Machine.execUoc m d s
  | .uocr m d => Sys2Proof.Machine.execUocr m d s
  | .prw m d => Sys2Proof.Machine.execPrw m d s
  | .prr m d => Sys2Proof.Machine.execPrr m d s
  | .int m d => Sys2Proof.Machine.execInt m d s
  | .halt m d => Sys2Proof.Machine.execHalt m d s
  | .illegal24 m d => Sys2Proof.Machine.execIllegal24 m d s
  | .illegal25 m d => Sys2Proof.Machine.execIllegal25 m d s
  | .illegal26 m d => Sys2Proof.Machine.execIllegal26 m d s
  | .illegal27 m d => Sys2Proof.Machine.execIllegal27 m d s
  | .illegal28 m d => Sys2Proof.Machine.execIllegal28 m d s
  | .illegal29 m d => Sys2Proof.Machine.execIllegal29 m d s
  | .illegal30 m d => Sys2Proof.Machine.execIllegal30 m d s
  | .illegal31 m d => Sys2Proof.Machine.execIllegal31 m d s
  | .illegal46 m d => Sys2Proof.Machine.execIllegal46 m d s
  | .illegal47 m d => Sys2Proof.Machine.execIllegal47 m d s
  | .illegal52 m d => Sys2Proof.Machine.execIllegal52 m d s
  | .illegal53 m d => Sys2Proof.Machine.execIllegal53 m d s
  | .illegal54 m d => Sys2Proof.Machine.execIllegal54 m d s
  | .illegal55 m d => Sys2Proof.Machine.execIllegal55 m d s
  | .illegal56 m d => Sys2Proof.Machine.execIllegal56 m d s
  | .illegal57 m d => Sys2Proof.Machine.execIllegal57 m d s
  | .illegal58 m d => Sys2Proof.Machine.execIllegal58 m d s
  | .illegal59 m d => Sys2Proof.Machine.execIllegal59 m d s
  | .illegal60 m d => Sys2Proof.Machine.execIllegal60 m d s
  | .illegal61 m d => Sys2Proof.Machine.execIllegal61 m d s
  | .illegal62 m d => Sys2Proof.Machine.execIllegal62 m d s
  | .illegal63 m d => Sys2Proof.Machine.execIllegal63 m d s
  | .illegal64 m d => Sys2Proof.Machine.execIllegal64 m d s
  | .illegal65 m d => Sys2Proof.Machine.execIllegal65 m d s
  | .illegal66 m d => Sys2Proof.Machine.execIllegal66 m d s
  | .illegal67 m d => Sys2Proof.Machine.execIllegal67 m d s
  | .illegal68 m d => Sys2Proof.Machine.execIllegal68 m d s
  | .illegal69 m d => Sys2Proof.Machine.execIllegal69 m d s
  | .illegal70 m d => Sys2Proof.Machine.execIllegal70 m d s
  | .illegal71 m d => Sys2Proof.Machine.execIllegal71 m d s
  | .illegal72 m d => Sys2Proof.Machine.execIllegal72 m d s
  | .illegal73 m d => Sys2Proof.Machine.execIllegal73 m d s
  | .illegal74 m d => Sys2Proof.Machine.execIllegal74 m d s
  | .illegal75 m d => Sys2Proof.Machine.execIllegal75 m d s
  | .illegal76 m d => Sys2Proof.Machine.execIllegal76 m d s
  | .illegal77 m d => Sys2Proof.Machine.execIllegal77 m d s
  | .illegal78 m d => Sys2Proof.Machine.execIllegal78 m d s
  | .illegal79 m d => Sys2Proof.Machine.execIllegal79 m d s
  | .illegal80 m d => Sys2Proof.Machine.execIllegal80 m d s
  | .illegal81 m d => Sys2Proof.Machine.execIllegal81 m d s
  | .illegal82 m d => Sys2Proof.Machine.execIllegal82 m d s
  | .illegal83 m d => Sys2Proof.Machine.execIllegal83 m d s
  | .illegal84 m d => Sys2Proof.Machine.execIllegal84 m d s
  | .illegal85 m d => Sys2Proof.Machine.execIllegal85 m d s
  | .illegal86 m d => Sys2Proof.Machine.execIllegal86 m d s
  | .illegal87 m d => Sys2Proof.Machine.execIllegal87 m d s
  | .illegal88 m d => Sys2Proof.Machine.execIllegal88 m d s
  | .illegal89 m d => Sys2Proof.Machine.execIllegal89 m d s
  | .illegal90 m d => Sys2Proof.Machine.execIllegal90 m d s
  | .illegal91 m d => Sys2Proof.Machine.execIllegal91 m d s
  | .illegal92 m d => Sys2Proof.Machine.execIllegal92 m d s
  | .illegal93 m d => Sys2Proof.Machine.execIllegal93 m d s
  | .illegal94 m d => Sys2Proof.Machine.execIllegal94 m d s
  | .illegal95 m d => Sys2Proof.Machine.execIllegal95 m d s
  | .illegal96 m d => Sys2Proof.Machine.execIllegal96 m d s
  | .illegal97 m d => Sys2Proof.Machine.execIllegal97 m d s
  | .illegal98 m d => Sys2Proof.Machine.execIllegal98 m d s
  | .illegal99 m d => Sys2Proof.Machine.execIllegal99 m d s
  | .illegal100 m d => Sys2Proof.Machine.execIllegal100 m d s
  | .illegal101 m d => Sys2Proof.Machine.execIllegal101 m d s
  | .illegal102 m d => Sys2Proof.Machine.execIllegal102 m d s
  | .illegal103 m d => Sys2Proof.Machine.execIllegal103 m d s
  | .illegal104 m d => Sys2Proof.Machine.execIllegal104 m d s
  | .illegal105 m d => Sys2Proof.Machine.execIllegal105 m d s
  | .illegal106 m d => Sys2Proof.Machine.execIllegal106 m d s
  | .illegal107 m d => Sys2Proof.Machine.execIllegal107 m d s
  | .illegal108 m d => Sys2Proof.Machine.execIllegal108 m d s
  | .illegal109 m d => Sys2Proof.Machine.execIllegal109 m d s
  | .illegal110 m d => Sys2Proof.Machine.execIllegal110 m d s
  | .illegal111 m d => Sys2Proof.Machine.execIllegal111 m d s
  | .illegal114 m d => Sys2Proof.Machine.execIllegal114 m d s
  | .illegal115 m d => Sys2Proof.Machine.execIllegal115 m d s
  | .illegal116 m d => Sys2Proof.Machine.execIllegal116 m d s
  | .illegal117 m d => Sys2Proof.Machine.execIllegal117 m d s
  | .illegal118 m d => Sys2Proof.Machine.execIllegal118 m d s
  | .illegal119 m d => Sys2Proof.Machine.execIllegal119 m d s
  | .illegal120 m d => Sys2Proof.Machine.execIllegal120 m d s
  | .illegal121 m d => Sys2Proof.Machine.execIllegal121 m d s
  | .illegal122 m d => Sys2Proof.Machine.execIllegal122 m d s
  | .illegal123 m d => Sys2Proof.Machine.execIllegal123 m d s
  | .illegal124 m d => Sys2Proof.Machine.execIllegal124 m d s
  | .illegal125 m d => Sys2Proof.Machine.execIllegal125 m d s

end Sys2Proof.Machine
end

