-- ==== Sys2Proof/Machine/Step.lean ====
section
/-! DEFINITION. One step (40_decoder.md R100), and the word of the next step for the host's tests. -/

namespace Sys2Proof.Machine

/-- One step: the guard, the stop request and the range check; then the word at `pc` is fetched, decoded and executed
(40_decoder.md R90 to R100). -/
def step (s : State) : Host.Outcome State Fault Refusal :=
  match runGuard s with
  | some f => .fault f
  | none => exec (decodeWord (fetchWord s)) s

/-- The state with the instruction whose `nbits` bits are `w` stored at `pc` in the program store. It stands for the load
of a program (log entry 26). -/
def State.withFetchWord (s : State) (nbits w : Nat) : State :=
  storeFetchWord (BitVec.ofNat 16 (w % 2 ^ nbits)) s

end Sys2Proof.Machine
end

