-- ==== Sys2Proof/Machine/Loader.lean ====
section
/-! DEFINITION. The binary loader: the boot mechanism that fills the program store and the extension-name list before the
first step (70_reset_and_hazards.md R232 to R236; log entry 17). -/

namespace Sys2Proof.Machine

/-- Why loading aborts before any execution (70_reset_and_hazards.md R236). -/
inductive LoadError where
  /-- Fewer than the 10 bytes of a header, the one way a header is malformed in this model (log entry 17). Safe: no
  machine state exists. -/
  | malformedHeader
  /-- Fewer bytes than `include_length` after the header (R233). Safe: no machine state exists. -/
  | truncatedInclude
  /-- A byte above `0x7F` in an extension name (R233). Safe: no machine state exists. -/
  | undecodableName
  /-- Fewer bytes after the include section than the loader copies (R234). Safe: no machine state exists. -/
  | truncatedCode
  deriving DecidableEq, Repr

/-- A little-endian number (70_reset_and_hazards.md R232). -/
def littleEndian : List Byte → Nat
  | [] => 0
  | b :: bs => b.toNat + 256 * littleEndian bs

/-- The `n` little-endian bytes of a number (70_reset_and_hazards.md R232). -/
def toLittleEndian : Nat → Nat → List Byte
  | 0, _ => []
  | n + 1, v => BitVec.ofNat 8 v :: toLittleEndian n (v / 256)

/-- How many bytes of the assembly section are copied: the masked length, at most the program store's size
(70_reset_and_hazards.md R234, conflict C10). -/
def loaderCopyLength (assemblyLength : Nat) : Nat :=
  min (assemblyLength &&& Config.loaderMask) Config.romBytes

/-- The newline-terminated names of an include section, in order, with the bytes of the name being read in reverse; none
when a name holds a byte above `0x7F`; bytes after the last newline are ignored (70_reset_and_hazards.md R233). -/
def includeNames : List Byte → List Byte → Option (List ExtName)
  | [], _ => some []
  | b :: bs, current =>
    if b = Config.newline then
      if current.all (fun c => decide (c.toNat ≤ Config.maxNameByte)) then
        (includeNames bs []).map (fun names => current.reverse :: names)
      else none
    else includeNames bs (b :: current)

/-- Reading a container: header, include section, assembly section, strictly in order (70_reset_and_hazards.md R232 to
R234, R236). The assembly section is kept as far as its declared length, copied or not, so that R236's round trip holds;
bytes after it are ignored. DESIGN CHOICE (log entry 17): R236 does not say what makes a header malformed; here only a file
of fewer than 10 bytes does, and any four tag bytes are taken, non-ASCII ones included. -/
def parseContainer (file : List Byte) : Except LoadError Container :=
  if file.length < 10 then .error .malformedHeader
  else
    let includeLength := littleEndian ((file.drop 4).take 2)
    let assemblyLength := littleEndian ((file.drop 6).take 4)
    let body := file.drop 10
    if body.length < includeLength then .error .truncatedInclude
    else if (includeNames (body.take includeLength) []).isNone then .error .undecodableName
    else if (body.drop includeLength).length < loaderCopyLength assemblyLength then .error .truncatedCode
    else .ok
      { tag := file.take 4
        includeLength := includeLength
        assemblyLength := assemblyLength
        includeSection := body.take includeLength
        assemblySection := (body.drop includeLength).take assemblyLength }

/-- The bytes of a container: header, include section, assembly section (70_reset_and_hazards.md R232, R236). -/
def serializeContainer (c : Container) : List Byte :=
  c.tag ++ toLittleEndian 2 c.includeLength ++ toLittleEndian 4 c.assemblyLength ++ c.includeSection ++ c.assemblySection

/-- The version check: a container that declares a newer version than the loader's gives a warning and nothing else
(70_reset_and_hazards.md R235). DESIGN CHOICE (log entry 17): it is made of a container that passed every load check. -/
def versionWarnings (c : Container) : List HostEvent :=
  if Config.loaderVersion < Config.versionOfTag c.tag then [.newerVersion c.tag] else []

/-- The bytes of the assembly section that the loader copies (70_reset_and_hazards.md R234). -/
def loadedCode (c : Container) : List Byte := c.assemblySection.take (loaderCopyLength c.assemblyLength)

/-- The machine before its first step: the reset state with the code copied to the program store from byte 0, the names of
the include section, and the host's registry (10_state.md R42, 70_reset_and_hazards.md R233, R234). -/
def boot (registry : List ExtName) (c : Container) : State :=
  { State.reset with
    programStore := Memory.copyFrom [] 0 (loadedCode c)
    extNames := (includeNames c.includeSection []).getD []
    registry := registry
    trace := versionWarnings c }

/-- Loading a file: a load error leaves no machine state (70_reset_and_hazards.md R236). DESIGN CHOICE (log entry 17): R235
gives no order between the version check and the load errors; here a file with a load error answers the error and no
version warning. -/
def load (registry : List ExtName) (file : List Byte) : Except LoadError State :=
  (parseContainer file).map (boot registry)

end Sys2Proof.Machine
end

