-- ==== Sys2Proof/Machine/Run.lean ====
section
/-! DEFINITION. The run loop (40_decoder.md R99), driven by the host's polls between the steps. -/

namespace Sys2Proof.Machine

/-- How a run of at most a budget of steps came out, and the state it left: what the host is told at the end of a run
(40_decoder.md R99). -/
inductive RunResult where
  /-- The budget is used up and the run could go on. -/
  | running (s : State)
  /-- No further step was taken. -/
  | stopped (reason : Fault) (s : State)
  /-- An instruction without a meaning. -/
  | rejected (reason : Refusal) (s : State)
  deriving DecidableEq, Repr

/-- `execute_whole` (40_decoder.md R99): before each step the host is polled and may ask to stop; steps until one cannot be
taken or the polls, the budget of steps, are used up. A request ends with the run it stopped, so the state a host stop
leaves can be stepped again (60_exceptions.md R207, log entry 19). -/
def executeWhole : List Bool → State → RunResult
  | [], s => .running s
  | asked :: polls, s =>
    match step (pollHost asked s) with
    | .next t => executeWhole polls t
    | .fault f => .stopped f (clearStopRequest s)
    | .refused r => .rejected r (clearStopRequest s)

end Sys2Proof.Machine
end

