-- ==== Sys2Proof/Safety.lean ====
section
/-! DEFINITION. The terms the claims use: what one step may change, the invariant of the machine, and what counts as a
good end of a run. -/

namespace Sys2Proof.Safety

open Sys2Proof.Machine

/-- The five address spaces (20_memory.md R50). -/
inductive Space where
  | rom
  | cache
  | astack
  | dstack
  | ports
  deriving DecidableEq, Repr

/-- The value of one cell of a space, as a number. -/
def peek (sp : Space) (s : State) (a : Nat) : Nat :=
  match sp with
  | .rom => (s.programStore.read a).toNat
  | .cache => (s.dataBank.read a).toNat
  | .astack => (s.accStack.read a).toNat
  | .dstack => (s.adrStack.read a).toNat
  | .ports => (s.ports.read a).toNat

/-- The components of the state that are not memories (10_state.md R20; the last five are the model's own, log entry 25). -/
inductive Component where
  | acc
  | bacc
  | pc
  | accStackPointer
  | adrStackPointer
  | carryFlag
  | cachePage
  | romPage
  | interruptRegister
  | tickCounter
  | instructionCounter
  | extNames
  | registry
  | stopRequested
  | draws
  | trace
  | ended
  deriving DecidableEq, Repr

/-- A component has the same value in two states. -/
def Component.same (p : Component) (s t : State) : Prop :=
  match p with
  | .acc => t.acc = s.acc
  | .bacc => t.bacc = s.bacc
  | .pc => t.pc = s.pc
  | .accStackPointer => t.accStackPointer = s.accStackPointer
  | .adrStackPointer => t.adrStackPointer = s.adrStackPointer
  | .carryFlag => t.carryFlag = s.carryFlag
  | .cachePage => t.cachePage = s.cachePage
  | .romPage => t.romPage = s.romPage
  | .interruptRegister => t.interruptRegister = s.interruptRegister
  | .tickCounter => t.tickCounter = s.tickCounter
  | .instructionCounter => t.instructionCounter = s.instructionCounter
  | .extNames => t.extNames = s.extNames
  | .registry => t.registry = s.registry
  | .stopRequested => t.stopRequested = s.stopRequested
  | .draws => t.draws = s.draws
  | .trace => t.trace = s.trace
  | .ended => t.ended = s.ended

/-- The frame of 40_decoder.md R101 for one executed instruction: besides the counters, which change as R98 says, only the
listed components change, and only the listed cells of the memories. -/
def OnlyChanges (i : Instr) (parts : List Component) (cells : List (Space × Nat)) (s t : State) : Prop :=
  t.tickCounter = s.tickCounter + tickCost i.opcode i.memFlag ∧
  t.instructionCounter = s.instructionCounter + 1 ∧
  (∀ p, p ≠ .tickCounter → p ≠ .instructionCounter → p ∉ parts → p.same s t) ∧
  (∀ sp a, (sp, a) ∉ cells → peek sp t a = peek sp s a)

/-- Every memory is in its canonical form and inside its space. -/
def MemoriesWf (s : State) : Prop :=
  s.programStore.wf Config.romBytes = true ∧ s.dataBank.wf Config.cacheBytes = true ∧
  s.accStack.wf Config.stackEntries = true ∧ s.adrStack.wf Config.stackEntries = true ∧
  s.ports.wf Config.portBytes = true

/-- The condition reported to the host is the one the interrupt register records (60_exceptions.md R200, log entry 24). -/
def EndRecorded (s : State) : Prop :=
  match s.ended with
  | none => True
  | some .halt => s.interruptRegister.halted = true
  | some .illegalInstruction => s.interruptRegister.illegalInstruction = true
  | some .divideByZero => s.interruptRegister.illegalInstruction = true
  | some .interruptFatal => s.interruptRegister.interruptPending = true
  | some .programCounterOverflow => False
  | some .hostStop => False
  | some .deviceStop => False

/-- The invariant of the machine: canonical memories, `pc` inside `0 .. PC_MAX` (10_state.md R27), a faithful report. -/
def MachineInv (s : State) : Prop :=
  MemoriesWf s ∧ s.pc ≤ Config.pcMax ∧ EndRecorded s

/-- At most one of the three named bits is set and the reserved bits are 0 (10_state.md R31). -/
def AtMostOneBit (r : InterruptRegister) : Prop :=
  r.reserved = 0 ∧ ¬ (r.halted = true ∧ r.interruptPending = true) ∧
  ¬ (r.halted = true ∧ r.illegalInstruction = true) ∧
  ¬ (r.interruptPending = true ∧ r.illegalInstruction = true)

/-- Two answers of a step are of the same kind, and two next states are related. -/
def Related (rel : State → State → Prop) :
    Host.Outcome State Fault Refusal → Host.Outcome State Fault Refusal → Prop
  | .next s, .next t => rel s t
  | .fault f, .fault g => f = g
  | .refused r, .refused q => r = q
  | _, _ => False

/-- The two states differ at most in `bacc`. -/
def SameButBacc (s t : State) : Prop := t = { s with bacc := t.bacc }

/-- The two states differ at most in the two bookkeeping counters. -/
def SameButCounters (s t : State) : Prop :=
  t = { s with tickCounter := t.tickCounter, instructionCounter := t.instructionCounter }

/-- The two states differ at most in the carry flag. -/
def SameButCarry (s t : State) : Prop := t = { s with carryFlag := t.carryFlag }

/-- The states a machine can be in from a given one: some steps, between which the host may make or drop its request to stop
(60_exceptions.md R207). -/
inductive Reaches (s : State) : State → Prop where
  | start : Reaches s s
  | step {t u : State} : Reaches s t → Machine.step t = .next u → Reaches s u
  | poll {t : State} (asked : Bool) : Reaches s t → Reaches s (pollHost asked t)
  | resume {t : State} : Reaches s t → Reaches s (clearStopRequest t)

/-- The values popped, first to last, by `n` pops of the accumulator stack, and the state after them (20_memory.md R59). -/
def popAll : Nat → State → List Byte × State
  | 0, s => ([], s)
  | n + 1, s =>
    let r := popAll n (dropAcc s)
    (topAcc (dropAcc s) :: r.1, r.2)

/-- The last value a list of writes gives an address, or the old one. -/
def lastWrite {n : Nat} (writes : List (BitVec n × Byte)) (a : BitVec n) (old : Byte) : Byte :=
  (((writes.filter (fun p => p.1 == a)).getLast?).map Prod.snd).getD old

/-- A run that ended by its own `HALT` (60_exceptions.md R201). -/
def endsByHalt : RunResult → Bool
  | .stopped .halt _ => true
  | _ => false

end Sys2Proof.Safety
end

