-- ==== Sys2Proof/Certificates/Slice0/Obligations.lean ====
section
/-! DEFINITION. The statements about the model, for the provers. Where a statement rests on a decision the spec marks as its
own, or on a choice of the model, its docstring names the log entry. -/

open Sys2Proof Sys2Proof.Machine Sys2Proof.Safety

/-- R71: the three fields cover a word exactly once, so words and triples correspond one to one, and the word of a triple is
`(M << 15) | (d << 7) | opcode`. -/
def Obligations.WordsAreFieldTriples : Prop :=
  (∀ (m : Bool) (d : Byte) (op : Opcode),
    flagField (encodeFields m d op) = m ∧ dataField (encodeFields m d op) = d ∧
    opcodeField (encodeFields m d op) = op ∧
    (encodeFields m d op).toNat = (m.toNat <<< 15) ||| (d.toNat <<< 7) ||| op.toNat) ∧
  (∀ w : Word16,
    encodeFields (flagField w) (dataField w) (opcodeField w) = w ∧
    (flagField w).toNat = w.toNat >>> 15 ∧ (dataField w).toNat = (w.toNat >>> 7) &&& 0xFF ∧
    (opcodeField w).toNat = w.toNat &&& 0x7F)

/-- Decoding an encoded instruction gives it back, for all 128 rows and every `M` and `d`, as a word and as bytes in store
order (R71, R72, R78; the opcode numbers are log entry 1). -/
def Obligations.DecodeOfEncodeIsIdentity : Prop :=
  ∀ (i : Instr) (rest : List Byte), decodeWord (encode i) = i ∧ decode (encodeBytes i ++ rest) = .ok (i, rest)

/-- Every one of the 65536 words is the encoding of the instruction it decodes to (R82; the opcode numbers are log entry 1). -/
def Obligations.EncodeOfDecodeIsIdentity : Prop :=
  ∀ w : Word16, encode (decodeWord w) = w

/-- The illegal words are exactly those with an opcode in 24-31, 46-47, 52-111 or 114-125 (R77; log entry 1). -/
def Obligations.IllegalWordsAreTheUnmappedOpcodes : Prop :=
  ∀ w : Word16, (decodeWord w).mnemonic = none ↔
    (24 ≤ w.toNat % 128 ∧ w.toNat % 128 ≤ 31) ∨ (46 ≤ w.toNat % 128 ∧ w.toNat % 128 ≤ 47) ∨
    (52 ≤ w.toNat % 128 ∧ w.toNat % 128 ≤ 111) ∨ (114 ≤ w.toNat % 128 ∧ w.toNat % 128 ≤ 125)

/-- A few words of spec/95 section 2.1 decode to the instructions listed there (log entry 1). -/
def Obligations.SampleWordsDecode : Prop :=
  decodeTableWord 16 0x0281 = some (.lra false 5) ∧ decodeTableWord 16 0x01AA = some (.add false 3) ∧
  decodeTableWord 16 0x8802 = some (.sra true 16) ∧ decodeTableWord 16 0x7F92 = some (.xor false 255) ∧
  decodeTableWord 16 0xFFFF = some (.halt true 255) ∧ decodeTableWord 16 0x0034 = some (.illegal52 false 0) ∧
  decode [0x81, 0x02, 0xAA] = .ok (.lra false 5, [0xAA])

/-- A line of assembly: `MNEMONIC n` has `M = 0`, `MNEMONIC $n` has `M = 1`, an absent operand is 0, and an operand above
255 has no word (R80; the notation is decision D15, the opcode numbers log entry 1). -/
def Obligations.AssemblyLineDecodesToItsMnemonic : Prop :=
  ∀ l : AsmLine,
    (l.wf = true → ∃ w, l.assemble = some w ∧ (decodeWord w).mnemonic = some l.mnemonic ∧
      (decodeWord w).memFlag = l.dollar ∧ (decodeWord w).data.toNat = l.operand.getD 0) ∧
    (l.wf = false → l.assemble = none)

/-- The bus value (R94): the data-bank cell at `(cache_page << 8) | d` when `M = 1` and the opcode is not the store
opcode, the data field otherwise, for every instruction. -/
def Obligations.BusValueIsFieldOrPagedCell : Prop :=
  ∀ (i : Instr) (s : State), (busValue i s).toNat =
    if i.memFlag = true ∧ i.opcode ≠ opc .sra then peek .cache s ((s.cachePage.toNat <<< 8) ||| i.data.toNat)
    else i.data.toNat

/-- When the bytes at `pc` decode to `i` and nothing stops the run, the step is exactly `exec` of `i`: `exec` itself
resolves the operand, sets `pc` and counts the instruction, and the step adds nothing (R92, R93, R96, R100). -/
def Obligations.StepRunsDecodedInstruction : Prop :=
  ∀ (s : State) (i : Instr),
    decode [s.programStore.read (2 * s.pc), s.programStore.read (2 * s.pc + 1)] = .ok (i, []) →
    s.interruptRegister.isSet = false → s.stopRequested = false → s.pc < Config.romWords →
    step s = exec i s

/-- R90, R99: a step is taken only when no bit of the interrupt register is set; with any bit set there is none, and the run
loop stops whatever the host's poll answers. That the end of a run drops the host's request, and changes nothing else, is the
model's choice of log entry 19. -/
def Obligations.SetInterruptRegisterHasNoStep : Prop :=
  (∀ s t : State, step s = .next t → s.interruptRegister =
    { halted := false, interruptPending := false, illegalInstruction := false, reserved := 0 }) ∧
  (∀ s : State, s.interruptRegister.halted = true ∨ s.interruptRegister.interruptPending = true ∨
    s.interruptRegister.illegalInstruction = true ∨ s.interruptRegister.reserved ≠ 0 →
    ∃ f, step s = .fault f ∧ ∀ (asked : Bool) (polls : List Bool),
      executeWhole (asked :: polls) s = .stopped f (clearStopRequest s))

/-- The range check (R91; the reading of the bound and the store's size are log entries 2 and 4): a word not wholly inside
the program store is not fetched, the run ends with the state as it was, and the last word is still fetched. -/
def Obligations.WordBeyondTheStoreIsNotFetched : Prop :=
  ∀ s : State, s.interruptRegister.isSet = false → s.stopRequested = false →
    (Config.romBytes ≤ 2 * s.pc + 1 → step s = .fault .programCounterOverflow ∧
      ∀ polls : List Bool, executeWhole (false :: polls) s = .stopped .programCounterOverflow s) ∧
    (s.pc = Config.romWords - 1 → step s = exec (decodeWord (fetchWord s)) s)

/-- R207, R99 (the model's form of the request is log entry 19): a pending request of the host stops the machine before the
next step; no instruction reads or writes it; after any number of steps the host can stop the run with the state as it
was, and going on from that state gives what the run would have given without the stop; the state a host stop leaves has
no bit set and, in range, a next step. -/
def Obligations.HostStopChangesNothing : Prop :=
  (∀ s : State, s.interruptRegister.isSet = false → s.stopRequested = true → step s = .fault .hostStop) ∧
  (∀ (i : Instr) (s t : State), exec i s = .next t → t.stopRequested = s.stopRequested ∧
    exec i { s with stopRequested := !s.stopRequested } = .next { t with stopRequested := !s.stopRequested }) ∧
  (∀ (n : Nat) (s t : State), s.stopRequested = false → executeWhole (List.replicate n false) s = .running t →
    ∀ polls : List Bool,
      executeWhole (List.replicate n false ++ polls) s = executeWhole polls t ∧
      (t.interruptRegister.isSet = false →
        executeWhole (List.replicate n false ++ true :: polls) s = .stopped .hostStop t)) ∧
  (∀ (polls : List Bool) (s t : State), MachineInv s → executeWhole polls s = .stopped .hostStop t →
    t.interruptRegister.isSet = false ∧ t.stopRequested = false ∧ (t.pc < Config.romWords → ∃ u, step t = .next u))

/-- R104: unless the host stops it, the machine has a next step exactly when no bit of the interrupt register is set and
`pc < ROM_WORDS`. -/
def Obligations.StepExistsExactlyWhenNotTerminal : Prop :=
  ∀ s : State, s.stopRequested = false →
    ((∃ t, step s = .next t) ↔ ¬ (s.interruptRegister.isSet = true ∨ Config.romWords ≤ s.pc))

/-- R230: after reset every register, flag, counter and memory cell is 0. The host-side fields are log entry 25's and are
not part of this statement. -/
def Obligations.ResetIsAllZero : Prop :=
  State.reset.acc = 0 ∧ State.reset.bacc = 0 ∧ State.reset.pc = 0 ∧ State.reset.accStackPointer = 0 ∧
  State.reset.adrStackPointer = 0 ∧ State.reset.carryFlag = false ∧ State.reset.cachePage = 0 ∧
  State.reset.romPage = 0 ∧ State.reset.interruptRegister.toBits = 0 ∧ State.reset.tickCounter = 0 ∧
  State.reset.instructionCounter = 0 ∧ State.reset.extNames = [] ∧
  ∀ (sp : Space) (a : Nat), peek sp State.reset a = 0

/-- R42, R232 to R234: booting a file that the loader accepts. The header is read little-endian from bytes 4 to 9, the include
section starts at byte 10 and its names are the newline-terminated ASCII strings in it, and the reset state is left but for
the program store, which holds the copied code from byte 0 and 0 after it, the names, and the host's registry and trace
(loader details are log entry 17). -/
def Obligations.BootCopiesCodeFromByteZero : Prop :=
  ∀ (registry : List ExtName) (file : List Byte) (s : State), load registry file = .ok s →
    ∃ c rest, parseContainer file = .ok c ∧ c.tag = file.take 4 ∧
      c.includeLength = (file.getD 4 0).toNat + 256 * (file.getD 5 0).toNat ∧
      c.assemblyLength = (file.getD 6 0).toNat + 256 * (file.getD 7 0).toNat + 65536 * (file.getD 8 0).toNat +
        16777216 * (file.getD 9 0).toNat ∧
      c.includeSection = (file.drop 10).take c.includeLength ∧
      10 + c.includeLength + min (c.assemblyLength &&& 0x1FFFF) Config.romBytes ≤ file.length ∧
      (∀ a, peek .rom s a = if a < min (c.assemblyLength &&& 0x1FFFF) Config.romBytes
        then (file.getD (10 + c.includeLength + a) 0).toNat else 0) ∧
      includeNames c.includeSection [] = some s.extNames ∧
      c.includeSection = (s.extNames.map (· ++ [0x0A])).flatten ++ rest ∧ 0x0A ∉ rest ∧
      (∀ n ∈ s.extNames, ∀ b ∈ n, b ≠ 0x0A ∧ b.toNat ≤ 0x7F) ∧
      s = { State.reset with
        programStore := s.programStore, extNames := s.extNames, registry := registry, trace := s.trace }

/-- The container round trip of R236 and S2: reading what was written gives the container, and writing what was read gives
the header and the two sections of the file, so the whole file when nothing follows them, whatever length the header
declares (loader details are log entry 17). -/
def Obligations.ContainerRoundTrip : Prop :=
  (∀ c : Container, c.wf = true → (includeNames c.includeSection []).isSome = true →
    parseContainer (serializeContainer c) = .ok c) ∧
  (∀ (file : List Byte) (c : Container), parseContainer file = .ok c →
    serializeContainer c = file.take (10 + c.includeLength + c.assemblyLength) ∧
    (file.length ≤ 10 + c.includeLength + c.assemblyLength → serializeContainer c = file))

/-- The invariant holds right after reset (R27, R42; the report field is log entry 24). -/
def Obligations.ResetMeetsTheInvariant : Prop := MachineInv State.reset

/-- The invariant holds before the first step of every program the loader accepts. -/
def Obligations.LoadedMachineMeetsTheInvariant : Prop :=
  ∀ (registry : List ExtName) (file : List Byte) (s : State), load registry file = .ok s → MachineInv s

/-- Every step keeps the invariant: canonical memories inside their spaces, `0 <= pc <= PC_MAX` (R21, R27), and a report
to the host that the interrupt register bears out (log entry 24). -/
def Obligations.StepKeepsTheInvariant : Prop :=
  ∀ s t : State, MachineInv s → step s = .next t → MachineInv t

/-- R31, C11: as long as no extension runs, at most one of the three bits is ever set and the reserved bits stay 0. -/
def Obligations.CoreSetsAtMostOneBit : Prop :=
  ∀ s t : State, step s = .next t →
    (s.extNames = [] ∨ ∀ m d, decodeWord (fetchWord s) ≠ .int m d) → AtMostOneBit t.interruptRegister

/-- R63: nothing a program does changes what a later fetch returns. -/
def Obligations.ProgramTextIsConstant : Prop :=
  ∀ s t : State, Reaches s t → t.programStore = s.programStore ∧
    ∀ p : Nat, fetchWord { t with pc := p } = fetchWord { s with pc := p }

/-- R24: `bacc` is 0 at reset, no instruction writes it or lets it influence anything, so it is 0 in every state a loaded
machine reaches. -/
def Obligations.BaccIsInert : Prop :=
  State.reset.bacc = 0 ∧
  (∀ (i : Instr) (s t : State), exec i s = .next t → t.bacc = s.bacc) ∧
  (∀ (i : Instr) (s : State) (v : Byte), Related SameButBacc (exec i s) (exec i { s with bacc := v })) ∧
  (∀ (registry : List ExtName) (c : Container) (s : State), Reaches (boot registry c) s → s.bacc = 0)

/-- R98, R213, R214: each executed instruction adds 1 to the instruction counter and its cost to the tick counter, chosen by
`M` alone, and no instruction lets either counter influence anything else (that terminating instructions are counted is log
entry 6, the free costs are log entry 14). -/
def Obligations.CountersCountAndAreInvisible : Prop :=
  (∀ (i : Instr) (s t : State), exec i s = .next t →
    t.instructionCounter = s.instructionCounter + 1 ∧
    t.tickCounter = s.tickCounter + (if i.memFlag then Config.costCache i.opcode else Config.costRom i.opcode)) ∧
  (∀ (i : Instr) (s : State) (k n : Nat), Related SameButCounters (exec i s)
    (exec i { s with tickCounter := k, instructionCounter := n }))

/-- R28: only CCF, LSC, RSC, ADC, SBC, INC, DEC, ADD and SUB write the carry flag, and only JMPC, ADC, SBC, LSC and RSC let
it influence anything. -/
def Obligations.CarryWritersAndReaders : Prop :=
  (∀ (i : Instr) (s t : State), exec i s = .next t →
    i.mnemonic ∉ [some .ccf, some .lsc, some .rsc, some .adc, some .sbc, some .inc, some .dec, some .add, some .sub] →
    t.carryFlag = s.carryFlag) ∧
  (∀ (i : Instr) (s : State) (c : Bool), i.mnemonic ∉ [some .jmpc, some .adc, some .sbc, some .lsc, some .rsc] →
    Related SameButCarry (exec i s) (exec i { s with carryFlag := c }))

/-- Trap entry (R209): an instruction that ends the run (an extension's answer to an `INT` aside) changes nothing but the bit, the report and the counters, leaves
`pc` on itself, and the next step answers the condition it raised (log entries 6 and 24). -/
def Obligations.TrapEntryIsPrecise : Prop :=
  ∀ (i : Instr) (s t : State), exec i s = .next t → (s.extNames = [] ∨ i.mnemonic ≠ some .int) →
    s.interruptRegister.isSet = false →
    t.interruptRegister.isSet = true →
    OnlyChanges i [.interruptRegister, .ended] [] s t ∧ AtMostOneBit t.interruptRegister ∧
    ∃ f, t.ended = some f ∧ step t = .fault f

/-- R210: no instruction clears a bit of the interrupt register (an extension's answer to an `INT` aside). -/
def Obligations.NoInstructionClearsAStatusBit : Prop :=
  ∀ (i : Instr) (s t : State), exec i s = .next t → (s.extNames = [] ∨ i.mnemonic ≠ some .int) →
    (s.interruptRegister.halted = true → t.interruptRegister.halted = true) ∧
    (s.interruptRegister.interruptPending = true → t.interruptRegister.interruptPending = true) ∧
    (s.interruptRegister.illegalInstruction = true → t.interruptRegister.illegalInstruction = true) ∧
    t.interruptRegister.reserved = s.interruptRegister.reserved

/-- R59: both stacks push at the pointer and then increment it, and decrement it before they pop, modulo 256; a value is
masked to the entry width; nothing but the stack and its pointer changes, so no condition is raised; a pop from the reset
state moves the pointer to 255 and gives 0. -/
def Obligations.StackAddressing : Prop :=
  (∀ (s : State) (v : Byte),
    (pushAcc v s).accStackPointer.toNat = (s.accStackPointer.toNat + 1) % 256 ∧
    (∀ a, peek .astack (pushAcc v s) a = if a = s.accStackPointer.toNat then v.toNat else peek .astack s a) ∧
    ((dropAcc s).accStackPointer.toNat : Int) = ((s.accStackPointer.toNat : Int) - 1) % 256 ∧
    (topAcc (dropAcc s)).toNat = peek .astack s (dropAcc s).accStackPointer.toNat ∧
    pushAcc v s = { s with accStack := (pushAcc v s).accStack, accStackPointer := (pushAcc v s).accStackPointer } ∧
    dropAcc s = { s with accStackPointer := (dropAcc s).accStackPointer }) ∧
  (∀ (s : State) (v : Nat),
    (pushAdr v s).adrStackPointer.toNat = (s.adrStackPointer.toNat + 1) % 256 ∧
    (∀ a, peek .dstack (pushAdr v s) a =
      if a = s.adrStackPointer.toNat then v % 2 ^ Config.adrStackEntryBits else peek .dstack s a) ∧
    ((dropAdr s).adrStackPointer.toNat : Int) = ((s.adrStackPointer.toNat : Int) - 1) % 256 ∧
    topAdr (dropAdr s) = peek .dstack s (dropAdr s).adrStackPointer.toNat ∧
    pushAdr v s = { s with adrStack := (pushAdr v s).adrStack, adrStackPointer := (pushAdr v s).adrStackPointer } ∧
    dropAdr s = { s with adrStackPointer := (dropAdr s).adrStackPointer }) ∧
  (dropAcc State.reset).accStackPointer = 255 ∧ topAcc (dropAcc State.reset) = 0 ∧
  (dropAdr State.reset).adrStackPointer = 255 ∧ topAdr (dropAdr State.reset) = 0

/-- The stack discipline of R125 and S4: any number up to 256 of pushes followed by as many pops gives the values back in
reverse order, from any pointer, and the pointer returns to where it was. -/
def Obligations.PushesThenPopsReverse : Prop :=
  ∀ (s : State) (vs : List Byte), vs.length ≤ 256 →
    (popAll vs.length (vs.foldl (fun s v => pushAcc v s) s)).1 = vs.reverse ∧
    (popAll vs.length (vs.foldl (fun s v => pushAcc v s) s)).2.accStackPointer = s.accStackPointer

/-- Two memories in canonical form that read the same at every address are equal data (the model's representation of the
five memories, R50; their zero reset contents are R42's). -/
def Obligations.CanonicalMemoriesWithEqualReadsAreEqual : Prop :=
  ∀ (w size : Nat) (m m' : Memory w), m.wf size = true → m'.wf size = true →
    (∀ a, m.read a = m'.read a) → m = m'

/-- R110: NOP completes in every state and changes only `pc` and the counters. -/
def Obligations.NopOnlyAdvances : Prop :=
  ∀ (m : Bool) (d : Byte) (s : State), ∃ t, exec (.nop m d) s = .next t ∧
    t.pc = s.pc + 1 ∧ OnlyChanges (.nop m d) [.pc] [] s t

/-- The loads complete in every state: LRA loads the bus value (R111), LRP the data-bank byte the old accumulator addresses in
the current page (R121), PRR the port the data field names whatever `M` is (R185, log entry 20). -/
def Obligations.LoadsWriteTheAccumulator : Prop :=
  ∀ (m : Bool) (d : Byte) (s : State),
    (∃ t, exec (.lra m d) s = .next t ∧ t.acc = busValue (.lra m d) s ∧ t.pc = s.pc + 1 ∧
      OnlyChanges (.lra m d) [.acc, .pc] [] s t) ∧
    (∃ t, exec (.lrp m d) s = .next t ∧ t.acc.toNat = peek .cache s (256 * s.cachePage.toNat + s.acc.toNat) ∧
      t.pc = s.pc + 1 ∧ OnlyChanges (.lrp m d) [.acc, .pc] [] s t) ∧
    (∃ t, exec (.prr m d) s = .next t ∧ t.acc.toNat = peek .ports s d.toNat ∧ t.pc = s.pc + 1 ∧
      OnlyChanges (.prr m d) [.acc, .pc] [] s t)

/-- R113: CALL pushes `pc + CALL_LINK_OFFSET` on the address stack and jumps to `(rom_page << 8) | b` (the offset is log entry
15, the entry width log entry 3). -/
def Obligations.CallPushesAndJumps : Prop :=
  ∀ (m : Bool) (d : Byte) (s : State), ∃ t, exec (.call m d) s = .next t ∧
    peek .dstack t s.adrStackPointer.toNat = (s.pc + Config.callLinkOffset) % 2 ^ Config.adrStackEntryBits ∧
    t.adrStackPointer.toNat = (s.adrStackPointer.toNat + 1) % 256 ∧
    t.pc = (s.romPage.toNat <<< 8) ||| (busValue (.call m d) s).toNat ∧
    OnlyChanges (.call m d) [.pc, .adrStackPointer] [(.dstack, s.adrStackPointer.toNat)] s t

/-- R114: RET continues at the entry below the address-stack pointer, loads the accumulator with the bus value, and leaves
`rom_page` and the stack's cells (the revision is log entry 16). -/
def Obligations.RetPopsAndLoads : Prop :=
  ∀ (m : Bool) (d : Byte) (s : State), ∃ t, exec (.ret m d) s = .next t ∧
    t.pc = peek .dstack s ((s.adrStackPointer.toNat + 255) % 256) ∧
    t.adrStackPointer.toNat = (s.adrStackPointer.toNat + 255) % 256 ∧
    t.acc = busValue (.ret m d) s ∧
    OnlyChanges (.ret m d) [.pc, .adrStackPointer, .acc] [] s t

/-- R241: with the offset 0 a RET right after a CALL comes back to the CALL, not after it; in general to its address plus the
offset (log entries 3 and 15). -/
def Obligations.RetAfterCallReturnsToTheLink : Prop :=
  ∀ (m m' : Bool) (d d' : Byte) (s t u : State), s.pc < Config.romWords →
    exec (.call m d) s = .next t → exec (.ret m' d') t = .next u →
    u.pc = (s.pc + Config.callLinkOffset) % 2 ^ Config.adrStackEntryBits ∧
    (Config.callLinkOffset = 0 → u.pc = s.pc) ∧ u.adrStackPointer = s.adrStackPointer

/-- R115 to R119: the jumps complete in every state, go to `(rom_page << 8) | b` when their condition holds and to `pc + 1`
when not, and change nothing else (JMPP's condition is log entry 21). -/
def Obligations.JumpsGoToTheirTarget : Prop :=
  ∀ (m : Bool) (d : Byte) (s : State),
    (∃ t, exec (.jmp m d) s = .next t ∧ t.pc = (s.romPage.toNat <<< 8) ||| (busValue (.jmp m d) s).toNat ∧
      OnlyChanges (.jmp m d) [.pc] [] s t) ∧
    (∃ t, exec (.jmpp m d) s = .next t ∧
      t.pc = (if s.acc.toNat ≠ 0 then (s.romPage.toNat <<< 8) ||| (busValue (.jmpp m d) s).toNat else s.pc + 1) ∧
      OnlyChanges (.jmpp m d) [.pc] [] s t) ∧
    (∃ t, exec (.jmpz m d) s = .next t ∧
      t.pc = (if s.acc.toNat = 0 then (s.romPage.toNat <<< 8) ||| (busValue (.jmpz m d) s).toNat else s.pc + 1) ∧
      OnlyChanges (.jmpz m d) [.pc] [] s t) ∧
    (∃ t, exec (.jmpn m d) s = .next t ∧
      t.pc = (if 128 ≤ s.acc.toNat then (s.romPage.toNat <<< 8) ||| (busValue (.jmpn m d) s).toNat else s.pc + 1) ∧
      OnlyChanges (.jmpn m d) [.pc] [] s t) ∧
    (∃ t, exec (.jmpc m d) s = .next t ∧
      t.pc = (if s.carryFlag then (s.romPage.toNat <<< 8) ||| (busValue (.jmpc m d) s).toNat else s.pc + 1) ∧
      OnlyChanges (.jmpc m d) [.pc] [] s t)

/-- R120, R122, R123: CCF clears the carry flag, CCP and CRP set their page register to the bus value, and control continues
at `pc + 1`. -/
def Obligations.FlagAndPageInstructions : Prop :=
  ∀ (m : Bool) (d : Byte) (s : State),
    (∃ t, exec (.ccf m d) s = .next t ∧ t.carryFlag = false ∧ t.pc = s.pc + 1 ∧
      OnlyChanges (.ccf m d) [.carryFlag, .pc] [] s t) ∧
    (∃ t, exec (.ccp m d) s = .next t ∧ t.cachePage = busValue (.ccp m d) s ∧ t.pc = s.pc + 1 ∧
      OnlyChanges (.ccp m d) [.cachePage, .pc] [] s t) ∧
    (∃ t, exec (.crp m d) s = .next t ∧ t.romPage = busValue (.crp m d) s ∧ t.pc = s.pc + 1 ∧
      OnlyChanges (.crp m d) [.romPage, .pc] [] s t)

/-- R124: PUSH stores the accumulator at the pointer of the accumulator stack and increments the pointer modulo 256. -/
def Obligations.PushStoresTheAccumulator : Prop :=
  ∀ (m : Bool) (d : Byte) (s : State), ∃ t, exec (.push m d) s = .next t ∧
    peek .astack t s.accStackPointer.toNat = s.acc.toNat ∧
    t.accStackPointer.toNat = (s.accStackPointer.toNat + 1) % 256 ∧ t.pc = s.pc + 1 ∧
    OnlyChanges (.push m d) [.pc, .accStackPointer] [(.astack, s.accStackPointer.toNat)] s t

/-- R125: POP decrements the pointer of the accumulator stack modulo 256 and loads the entry it then indexes, which stays. -/
def Obligations.PopLoadsTheAccumulator : Prop :=
  ∀ (m : Bool) (d : Byte) (s : State), ∃ t, exec (.pop m d) s = .next t ∧
    t.acc.toNat = peek .astack s ((s.accStackPointer.toNat + 255) % 256) ∧
    t.accStackPointer.toNat = (s.accStackPointer.toNat + 255) % 256 ∧ t.pc = s.pc + 1 ∧
    OnlyChanges (.pop m d) [.pc, .acc, .accStackPointer] [] s t

/-- R130 to R133: AND, OR and XOR act bit by bit on the accumulator and the bus value, NOT on the accumulator alone, and the
carry flag is untouched (the operands are log entry 8). -/
def Obligations.LogicActsBitwise : Prop :=
  ∀ (m : Bool) (d : Byte) (s : State),
    (∃ t, exec (.and m d) s = .next t ∧ t.pc = s.pc + 1 ∧ OnlyChanges (.and m d) [.acc, .pc] [] s t ∧
      ∀ k < 8, t.acc.getLsbD k = (s.acc.getLsbD k && (busValue (.and m d) s).getLsbD k)) ∧
    (∃ t, exec (.or m d) s = .next t ∧ t.pc = s.pc + 1 ∧ OnlyChanges (.or m d) [.acc, .pc] [] s t ∧
      ∀ k < 8, t.acc.getLsbD k = (s.acc.getLsbD k || (busValue (.or m d) s).getLsbD k)) ∧
    (∃ t, exec (.xor m d) s = .next t ∧ t.pc = s.pc + 1 ∧ OnlyChanges (.xor m d) [.acc, .pc] [] s t ∧
      ∀ k < 8, t.acc.getLsbD k = Bool.xor (s.acc.getLsbD k) ((busValue (.xor m d) s).getLsbD k)) ∧
    (∃ t, exec (.not m d) s = .next t ∧ t.pc = s.pc + 1 ∧ OnlyChanges (.not m d) [.acc, .pc] [] s t ∧
      ∀ k < 8, t.acc.getLsbD k = !s.acc.getLsbD k)

/-- LSC by any count (R134's formula is the spec's reading, decision D10, log entry 10): the accumulator becomes the low byte
of `acc * 2^b` or-ed with the carry-in, and the carry says whether that exceeds 255; from a count of 8 on only the carry-in
is left. -/
def Obligations.LscShiftsLeftThroughCarry : Prop :=
  ∀ (m : Bool) (d : Byte) (s : State), ∃ t, exec (.lsc m d) s = .next t ∧
    t.acc.toNat = ((s.acc.toNat * 2 ^ (busValue (.lsc m d) s).toNat) ||| s.carryFlag.toNat) % 256 ∧
    t.carryFlag = decide (255 < (s.acc.toNat * 2 ^ (busValue (.lsc m d) s).toNat) ||| s.carryFlag.toNat) ∧
    (8 ≤ (busValue (.lsc m d) s).toNat →
      t.acc.toNat = s.carryFlag.toNat ∧ t.carryFlag = decide (s.acc.toNat ≠ 0)) ∧
    t.pc = s.pc + 1 ∧ OnlyChanges (.lsc m d) [.acc, .carryFlag, .pc] [] s t

/-- RSC by any count (R135's formula is the spec's reading, decision D11, log entry 10): the accumulator becomes
`acc / 2^b` or-ed with the carry-in at bit 7, and the carry says whether a shifted-out bit was 1; from a count of 8 on only
the carry-in is left. -/
def Obligations.RscShiftsRightThroughCarry : Prop :=
  ∀ (m : Bool) (d : Byte) (s : State), ∃ t, exec (.rsc m d) s = .next t ∧
    t.acc.toNat = ((s.acc.toNat / 2 ^ (busValue (.rsc m d) s).toNat) ||| (128 * s.carryFlag.toNat)) % 256 ∧
    t.carryFlag = decide (s.acc.toNat % 2 ^ (busValue (.rsc m d) s).toNat ≠ 0) ∧
    (8 ≤ (busValue (.rsc m d) s).toNat →
      t.acc.toNat = 128 * s.carryFlag.toNat ∧ t.carryFlag = decide (s.acc.toNat ≠ 0)) ∧
    t.pc = s.pc + 1 ∧ OnlyChanges (.rsc m d) [.acc, .carryFlag, .pc] [] s t

/-- R136, R137: CMP compares the two's-complement readings and CMPU the unsigned ones; the accumulator becomes 1, 0 or 255
for greater, equal or less, and the carry flag is untouched (the destination is log entry 11). -/
def Obligations.ComparisonsFollowTheirOrder : Prop :=
  ∀ (m : Bool) (d : Byte) (s : State),
    (∃ t, exec (.cmp m d) s = .next t ∧ t.pc = s.pc + 1 ∧ OnlyChanges (.cmp m d) [.acc, .pc] [] s t ∧
      t.acc.toNat = if (busValue (.cmp m d) s).toInt < s.acc.toInt then 1
        else if s.acc.toInt = (busValue (.cmp m d) s).toInt then 0 else 255) ∧
    (∃ t, exec (.cmpu m d) s = .next t ∧ t.pc = s.pc + 1 ∧ OnlyChanges (.cmpu m d) [.acc, .pc] [] s t ∧
      t.acc.toNat = if (busValue (.cmpu m d) s).toNat < s.acc.toNat then 1
        else if s.acc.toNat = (busValue (.cmpu m d) s).toNat then 0 else 255)

/-- R150, R151, R153, R162: ADC adds the bus value and the carry-in, ADD the bus value, INC 1; the result is the exact sum
modulo 256 and the carry is 1 exactly when the exact sum exceeds 255 (INC's operand is log entry 9, ADD's carry-in log entry
22). -/
def Obligations.AdditionsAndTheirCarry : Prop :=
  ∀ (m : Bool) (d : Byte) (s : State),
    (∃ t, exec (.adc m d) s = .next t ∧ t.pc = s.pc + 1 ∧ OnlyChanges (.adc m d) [.acc, .carryFlag, .pc] [] s t ∧
      t.acc.toNat + 256 * t.carryFlag.toNat = s.acc.toNat + (busValue (.adc m d) s).toNat + s.carryFlag.toNat) ∧
    (∃ t, exec (.add m d) s = .next t ∧ t.pc = s.pc + 1 ∧ OnlyChanges (.add m d) [.acc, .carryFlag, .pc] [] s t ∧
      t.acc.toNat + 256 * t.carryFlag.toNat = s.acc.toNat + (busValue (.add m d) s).toNat) ∧
    (∃ t, exec (.inc m d) s = .next t ∧ t.pc = s.pc + 1 ∧ OnlyChanges (.inc m d) [.acc, .carryFlag, .pc] [] s t ∧
      t.acc.toNat + 256 * t.carryFlag.toNat = s.acc.toNat + 1)

/-- R150, R152, R154, R163: SBC subtracts the bus value and the borrow-in, SUB the bus value, DEC 1; the result is the exact
difference modulo 256 and the carry is 1 exactly when the exact difference is negative (DEC's operand is log entry 9, SUB's
borrow-in log entry 22). -/
def Obligations.SubtractionsAndTheirBorrow : Prop :=
  ∀ (m : Bool) (d : Byte) (s : State),
    (∃ t, exec (.sbc m d) s = .next t ∧ t.pc = s.pc + 1 ∧ OnlyChanges (.sbc m d) [.acc, .carryFlag, .pc] [] s t ∧
      t.acc.toNat + (busValue (.sbc m d) s).toNat + s.carryFlag.toNat = s.acc.toNat + 256 * t.carryFlag.toNat) ∧
    (∃ t, exec (.sub m d) s = .next t ∧ t.pc = s.pc + 1 ∧ OnlyChanges (.sub m d) [.acc, .carryFlag, .pc] [] s t ∧
      t.acc.toNat + (busValue (.sub m d) s).toNat = s.acc.toNat + 256 * t.carryFlag.toNat) ∧
    (∃ t, exec (.dec m d) s = .next t ∧ t.pc = s.pc + 1 ∧ OnlyChanges (.dec m d) [.acc, .carryFlag, .pc] [] s t ∧
      t.acc.toNat + 1 = s.acc.toNat + 256 * t.carryFlag.toNat)

/-- R155: ABS gives the absolute value of the two's-complement reading, except that -128 stays -128; the carry flag is
untouched. -/
def Obligations.AbsTakesTheAbsoluteValue : Prop :=
  ∀ (m : Bool) (d : Byte) (s : State), ∃ t, exec (.abs m d) s = .next t ∧
    (s.acc.toNat ≠ 128 → t.acc.toInt = |s.acc.toInt|) ∧ (s.acc.toNat = 128 → t.acc.toNat = 128) ∧
    t.pc = s.pc + 1 ∧ OnlyChanges (.abs m d) [.acc, .pc] [] s t

/-- R150, R156, R157: MUL and MULH give the two bytes of the exact unsigned product and leave the carry flag. -/
def Obligations.ProductBytes : Prop :=
  ∀ (m : Bool) (d : Byte) (s : State), ∃ t u,
    exec (.mul m d) s = .next t ∧ exec (.mulh m d) s = .next u ∧
    256 * u.acc.toNat + t.acc.toNat = s.acc.toNat * (busValue (.mul m d) s).toNat ∧
    256 * u.acc.toNat + t.acc.toNat = s.acc.toNat * (busValue (.mulh m d) s).toNat ∧
    t.pc = s.pc + 1 ∧ u.pc = s.pc + 1 ∧
    OnlyChanges (.mul m d) [.acc, .pc] [] s t ∧ OnlyChanges (.mulh m d) [.acc, .pc] [] s u

/-- R158, R159, R205 (the policy is decision D5, log entry 5): with a zero bus value DIV and MOD set the illegal-instruction
bit, leave `acc`, `carry_flag` and `pc`, are counted, and the machine then stops with `DivideByZero`. -/
def Obligations.ZeroDivisorEndsTheRun : Prop :=
  ∀ (m : Bool) (d : Byte) (s : State),
    (busValue (.div m d) s = 0 → ∃ t, exec (.div m d) s = .next t ∧
      t.interruptRegister = { s.interruptRegister with illegalInstruction := true } ∧
      OnlyChanges (.div m d) [.interruptRegister, .ended] [] s t ∧ step t = .fault .divideByZero) ∧
    (busValue (.mod m d) s = 0 → ∃ t, exec (.mod m d) s = .next t ∧
      t.interruptRegister = { s.interruptRegister with illegalInstruction := true } ∧
      OnlyChanges (.mod m d) [.interruptRegister, .ended] [] s t ∧ step t = .fault .divideByZero)

/-- R160, R161: TSE and TCE replace the accumulator by the table entry it indexes and leave the carry flag. -/
def Obligations.WaveLookups : Prop :=
  ∀ (m : Bool) (d : Byte) (s : State),
    (∃ t, exec (.tse m d) s = .next t ∧ t.acc = sinLut s.acc ∧ t.pc = s.pc + 1 ∧
      OnlyChanges (.tse m d) [.acc, .pc] [] s t) ∧
    (∃ t, exec (.tce m d) s = .next t ∧ t.acc = cosLut s.acc ∧ t.pc = s.pc + 1 ∧
      OnlyChanges (.tce m d) [.acc, .pc] [] s t)

/-- R165, R166: the two tables are the rounded sine and cosine of `i / 32` radians, at every index (radians and rounding are
decision D22, log entry 18). -/
def Obligations.WaveTablesAreRoundedSines : Prop :=
  ∀ i : Byte,
    ((sinLut i).toNat : ℤ) = round (255 * (Real.sin ((i.toNat : ℝ) / 32) + 1) / 2) ∧
    ((cosLut i).toNat : ℤ) = round (255 * (Real.cos ((i.toNat : ℝ) / 32) + 1) / 2)

/-- R164: RPL gives 255 for a zero bus value and `floor(255 / b)` otherwise; it never faults, ignores the old accumulator and
leaves the carry flag. -/
def Obligations.ReciprocalLookup : Prop :=
  ∀ (m : Bool) (d : Byte) (s : State), ∃ t, exec (.rpl m d) s = .next t ∧
    ((busValue (.rpl m d) s).toNat = 0 → t.acc.toNat = 255) ∧
    ((busValue (.rpl m d) s).toNat ≠ 0 →
      t.acc.toNat * (busValue (.rpl m d) s).toNat ≤ 255 ∧
      255 < (t.acc.toNat + 1) * (busValue (.rpl m d) s).toNat) ∧
    t.pc = s.pc + 1 ∧ OnlyChanges (.rpl m d) [.acc, .pc] [] s t

/-- R180: UI loads the byte the host answers, whatever it is (the answer is the free value of log entry 12; the draw index is
log entry 25). -/
def Obligations.ConsoleInputLoadsTheHostsByte : Prop :=
  ∀ (m : Bool) (d : Byte) (s : State), ∃ t, exec (.ui m d) s = .next t ∧
    t.acc = Config.consoleIn s.draws ∧ t.draws = s.draws + 1 ∧ t.pc = s.pc + 1 ∧
    OnlyChanges (.ui m d) [.acc, .pc, .draws] [] s t

/-- R181 to R183: UO, UOC and UOCR hand the accumulator and the bus value to the host and change nothing of the core but `pc`
(the trace is log entry 12). -/
def Obligations.ConsoleOutputOnlyEmits : Prop :=
  ∀ (m : Bool) (d : Byte) (s : State),
    (∃ t, exec (.uo m d) s = .next t ∧ t.trace = s.trace ++ [.consoleOut .uo s.acc (busValue (.uo m d) s)] ∧
      t.pc = s.pc + 1 ∧ OnlyChanges (.uo m d) [.pc, .trace] [] s t) ∧
    (∃ t, exec (.uoc m d) s = .next t ∧ t.trace = s.trace ++ [.consoleOut .uoc s.acc (busValue (.uoc m d) s)] ∧
      t.pc = s.pc + 1 ∧ OnlyChanges (.uoc m d) [.pc, .trace] [] s t) ∧
    (∃ t, exec (.uocr m d) s = .next t ∧ t.trace = s.trace ++ [.consoleOut .uocr s.acc (busValue (.uocr m d) s)] ∧
      t.pc = s.pc + 1 ∧ OnlyChanges (.uocr m d) [.pc, .trace] [] s t)

/-- R186, R189: with a declared extension INT completes, whatever the extensions answer, and leaves everything but the ports,
the data bank, the interrupt register, `pc` and the host side (the answers are the free values of log entry 13). -/
def Obligations.IntWithExtensionsCompletes : Prop :=
  ∀ (m : Bool) (d : Byte) (s : State), s.extNames ≠ [] → ∃ t, exec (.int m d) s = .next t ∧
    t.pc = s.pc + 1 ∧ t.tickCounter = s.tickCounter + tickCost (opc .int) m ∧
    t.instructionCounter = s.instructionCounter + 1 ∧
    t = { s with
      pc := t.pc, tickCounter := t.tickCounter, instructionCounter := t.instructionCounter, ports := t.ports,
      dataBank := t.dataBank, interruptRegister := t.interruptRegister, draws := t.draws, trace := t.trace }

/-- R186, R215: when no declared extension is registered, INT changes nothing but `pc` and the counters, and the host gets one
warning per name, in load order (the trace and the registry are log entries 13 and 25). -/
def Obligations.IntSkipsUnregisteredNames : Prop :=
  ∀ (m : Bool) (d : Byte) (s : State), s.extNames ≠ [] → (∀ n ∈ s.extNames, n ∉ s.registry) →
    ∃ t, exec (.int m d) s = .next t ∧ t.pc = s.pc + 1 ∧
      t.trace = s.trace ++ s.extNames.map HostEvent.extensionMissing ∧
      OnlyChanges (.int m d) [.pc, .trace] [] s t

/-- R186, R189, R215: INT calls every declared and registered extension in load order. With one such extension, the ports and
the data bank hold what it last wrote to each cell, at absolute addresses, and the interrupt register is the one it left.
With several declared names, registered or not, INT does what an INT for the first name and then an INT for the other names
would do to the ports, the data bank, the interrupt register and the host side (the answers are the free values of log
entry 13, the register's layout log entry 7). -/
def Obligations.IntAppliesTheExtensionsWrites : Prop :=
  (∀ (m : Bool) (d : Byte) (s : State) (n : ExtName), s.extNames = [n] → n ∈ s.registry →
    ∃ t, exec (.int m d) s = .next t ∧
      (∀ a : Byte, readPort t a =
        lastWrite (Config.extProcess s.draws (extRequest n s)).portWrites a (readPort s a)) ∧
      (∀ a : Word16, readCache t a =
        lastWrite (Config.extProcess s.draws (extRequest n s)).dataBankWrites a (readCache s a)) ∧
      t.interruptRegister.toBits = (Config.extProcess s.draws (extRequest n s)).interruptRegister ∧
      t.draws = s.draws + 1 ∧ t.trace = s.trace ∧ t.pc = s.pc + 1) ∧
  (∀ (m : Bool) (d : Byte) (s : State) (n : ExtName) (ns : List ExtName), s.extNames = n :: ns → ns ≠ [] →
    ∃ t u v, exec (.int m d) s = .next t ∧ exec (.int m d) { s with extNames := [n] } = .next u ∧
      exec (.int m d) { u with extNames := ns } = .next v ∧
      t.ports = v.ports ∧ t.dataBank = v.dataBank ∧ t.interruptRegister = v.interruptRegister ∧
      t.draws = v.draws ∧ t.trace = v.trace ∧ t.pc = s.pc + 1)

/-- R186, R204: with no declared extension INT sets the interrupt-pending bit, leaves `pc`, and the machine then stops with
`InterruptFatal` (that it is counted is log entry 6). -/
def Obligations.IntWithoutExtensionsEndsTheRun : Prop :=
  ∀ (m : Bool) (d : Byte) (s : State), s.extNames = [] → ∃ t, exec (.int m d) s = .next t ∧
    t.interruptRegister = { s.interruptRegister with interruptPending := true } ∧
    OnlyChanges (.int m d) [.interruptRegister, .ended] [] s t ∧ step t = .fault .interruptFatal

/-- R187, R201: HALT sets the halted bit, leaves `pc` on itself and everything else as it was, is counted, and the machine
then stops with `Halt`. -/
def Obligations.HaltEndsTheRun : Prop :=
  ∀ (m : Bool) (d : Byte) (s : State), ∃ t, exec (.halt m d) s = .next t ∧
    t.interruptRegister = { s.interruptRegister with halted := true } ∧
    OnlyChanges (.halt m d) [.interruptRegister, .ended] [] s t ∧ step t = .fault .halt

/-- R188, R202: each of the 82 unmapped opcodes (illegal24 to illegal31, illegal46, illegal47, illegal52 to illegal111,
illegal114 to illegal125) sets the illegal-instruction bit, leaves `pc` on itself and everything else as it was, and the
machine then stops with `IllegalInstruction` (that it is counted is log entry 6). -/
def Obligations.UnmappedOpcodesEndTheRun : Prop :=
  ∀ (i : Instr) (s : State), i.mnemonic = none → ∃ t, exec i s = .next t ∧
    t.interruptRegister = { s.interruptRegister with illegalInstruction := true } ∧
    OnlyChanges i [.interruptRegister, .ended] [] s t ∧ step t = .fault .illegalInstruction

/-- R112, R184: SRA stores the accumulator at `(cache_page << 8) | d`, with `M = 1` as with `M = 0`, and PRW writes it to the
port `d`, whatever `M` is (PRW's operand is log entry 20); neither touches another cell. -/
def Obligations.StoresWriteOneCell : Prop :=
  ∀ (m : Bool) (d : Byte) (s : State),
    (∃ t, exec (.sra m d) s = .next t ∧ peek .cache t (eaCache s d).toNat = s.acc.toNat ∧
      (eaCache s d).toNat = (s.cachePage.toNat <<< 8) ||| d.toNat ∧ t.pc = s.pc + 1 ∧
      OnlyChanges (.sra m d) [.pc] [(.cache, (eaCache s d).toNat)] s t) ∧
    (∃ t, exec (.prw m d) s = .next t ∧ peek .ports t d.toNat = s.acc.toNat ∧ t.pc = s.pc + 1 ∧
      OnlyChanges (.prw m d) [.pc] [(.ports, d.toNat)] s t)

/-- R23, R24, R26, R28 to R31, R34 to R37, R41: which instructions may write each register, flag, pointer, memory and list,
over all 128 rows, and that `pc` goes to `pc + 1` but for jumps, calls, returns and an instruction that raises a
condition. -/
def Obligations.OnlyTheNamedInstructionsWrite : Prop :=
  ∀ (i : Instr) (s t : State), exec i s = .next t →
    t.bacc = s.bacc ∧
    (i.mnemonic ∉ [some .ccf, some .lsc, some .rsc, some .adc, some .sbc, some .inc, some .dec, some .add, some .sub] →
      t.carryFlag = s.carryFlag) ∧
    (i.mnemonic ∉ [some .call, some .ret, some .jmp, some .jmpp, some .jmpz, some .jmpn, some .jmpc] →
      t.pc = s.pc + 1 ∨ ∃ c, t = countInstr i.opcode i.memFlag (raise c s)) ∧
    (i.mnemonic ∉ [some .push, some .pop] → t.accStackPointer = s.accStackPointer) ∧
    (i.mnemonic ∉ [some .call, some .ret] → t.adrStackPointer = s.adrStackPointer) ∧
    (i.mnemonic ≠ some .ccp → t.cachePage = s.cachePage) ∧
    (i.mnemonic ≠ some .crp → t.romPage = s.romPage) ∧
    t.programStore = s.programStore ∧ t.extNames = s.extNames ∧
    (i.mnemonic ∉ [some .sra, some .int] → t.dataBank = s.dataBank) ∧
    (i.mnemonic ∉ [some .prw, some .int] → t.ports = s.ports) ∧
    (i.mnemonic ≠ some .push → t.accStack = s.accStack) ∧
    (i.mnemonic ≠ some .call → t.adrStack = s.adrStack) ∧
    (i.mnemonic ∉ [some .halt, some .int, some .div, some .mod, none] → t.interruptRegister = s.interruptRegister) ∧
    (i.mnemonic ∈ [some .nop, some .sra, some .call, some .jmp, some .jmpp, some .jmpz, some .jmpn, some .jmpc, some .ccf,
      some .ccp, some .crp, some .push, some .uo, some .uoc, some .uocr, some .prw, some .int, some .halt, none] →
      t.acc = s.acc)

/-- R150, R158, R159: with a non-zero bus value DIV gives the floor quotient and MOD the remainder of the unsigned division,
and both leave the carry flag. -/
def Obligations.DivisionByANonZeroDivisor : Prop :=
  ∀ (m : Bool) (d : Byte) (s : State),
    (busValue (.div m d) s ≠ 0 → ∃ t, exec (.div m d) s = .next t ∧
      t.acc.toNat * (busValue (.div m d) s).toNat ≤ s.acc.toNat ∧
      s.acc.toNat < (t.acc.toNat + 1) * (busValue (.div m d) s).toNat ∧
      t.pc = s.pc + 1 ∧ OnlyChanges (.div m d) [.acc, .pc] [] s t) ∧
    (busValue (.mod m d) s ≠ 0 → ∃ t, exec (.mod m d) s = .next t ∧
      t.acc.toNat < (busValue (.mod m d) s).toNat ∧
      (∃ q, s.acc.toNat = (busValue (.mod m d) s).toNat * q + t.acc.toNat) ∧
      t.pc = s.pc + 1 ∧ OnlyChanges (.mod m d) [.acc, .pc] [] s t)
end

