-- ==== Sys2Proof/Laws/PerInstr.lean ====
section
/-! SUPPORT. The per-instruction family `RawFields`: every instruction's field triple is well formed, so its word is the
plain number the encoding formula of 30_encoding.md R71 gives. -/

namespace Sys2Proof.Laws.RawFields

/-- The family's statement about one instruction: its opcode number is one of 0 to 127, its fields fit their widths, and
`M` and `d` are the ones it was built with. -/
def Statement (i : Instr) : Prop :=
  i.raw.wf = true ∧ instrOf i.opcode i.memFlag i.data = i

/-- The widths of the types bound the raw fields of any instruction. -/
theorem raw_wf (i : Instr) : i.raw.wf = true := by
  have h1 := i.data.isLt
  have h2 := i.opcode.isLt
  have h3 : i.memFlag.toNat ≤ 1 := Bool.toNat_le _
  simp only [RawInstr.wf, Instr.raw, Bool.and_eq_true]
  exact ⟨⟨decide_eq_true h3, decide_eq_true (by omega)⟩, decide_eq_true (by omega)⟩

theorem nop (m : Bool) (d : Byte) : Statement (.nop m d) := ⟨raw_wf _, rfl⟩
theorem lra (m : Bool) (d : Byte) : Statement (.lra m d) := ⟨raw_wf _, rfl⟩
theorem sra (m : Bool) (d : Byte) : Statement (.sra m d) := ⟨raw_wf _, rfl⟩
theorem call (m : Bool) (d : Byte) : Statement (.call m d) := ⟨raw_wf _, rfl⟩
theorem ret (m : Bool) (d : Byte) : Statement (.ret m d) := ⟨raw_wf _, rfl⟩
theorem jmp (m : Bool) (d : Byte) : Statement (.jmp m d) := ⟨raw_wf _, rfl⟩
theorem jmpp (m : Bool) (d : Byte) : Statement (.jmpp m d) := ⟨raw_wf _, rfl⟩
theorem jmpz (m : Bool) (d : Byte) : Statement (.jmpz m d) := ⟨raw_wf _, rfl⟩
theorem jmpn (m : Bool) (d : Byte) : Statement (.jmpn m d) := ⟨raw_wf _, rfl⟩
theorem jmpc (m : Bool) (d : Byte) : Statement (.jmpc m d) := ⟨raw_wf _, rfl⟩
theorem ccf (m : Bool) (d : Byte) : Statement (.ccf m d) := ⟨raw_wf _, rfl⟩
theorem lrp (m : Bool) (d : Byte) : Statement (.lrp m d) := ⟨raw_wf _, rfl⟩
theorem ccp (m : Bool) (d : Byte) : Statement (.ccp m d) := ⟨raw_wf _, rfl⟩
theorem crp (m : Bool) (d : Byte) : Statement (.crp m d) := ⟨raw_wf _, rfl⟩
theorem push (m : Bool) (d : Byte) : Statement (.push m d) := ⟨raw_wf _, rfl⟩
theorem pop (m : Bool) (d : Byte) : Statement (.pop m d) := ⟨raw_wf _, rfl⟩
theorem and (m : Bool) (d : Byte) : Statement (.and m d) := ⟨raw_wf _, rfl⟩
theorem or (m : Bool) (d : Byte) : Statement (.or m d) := ⟨raw_wf _, rfl⟩
theorem xor (m : Bool) (d : Byte) : Statement (.xor m d) := ⟨raw_wf _, rfl⟩
theorem not (m : Bool) (d : Byte) : Statement (.not m d) := ⟨raw_wf _, rfl⟩
theorem lsc (m : Bool) (d : Byte) : Statement (.lsc m d) := ⟨raw_wf _, rfl⟩
theorem rsc (m : Bool) (d : Byte) : Statement (.rsc m d) := ⟨raw_wf _, rfl⟩
theorem cmp (m : Bool) (d : Byte) : Statement (.cmp m d) := ⟨raw_wf _, rfl⟩
theorem cmpu (m : Bool) (d : Byte) : Statement (.cmpu m d) := ⟨raw_wf _, rfl⟩
theorem adc (m : Bool) (d : Byte) : Statement (.adc m d) := ⟨raw_wf _, rfl⟩
theorem sbc (m : Bool) (d : Byte) : Statement (.sbc m d) := ⟨raw_wf _, rfl⟩
theorem inc (m : Bool) (d : Byte) : Statement (.inc m d) := ⟨raw_wf _, rfl⟩
theorem dec (m : Bool) (d : Byte) : Statement (.dec m d) := ⟨raw_wf _, rfl⟩
theorem abs (m : Bool) (d : Byte) : Statement (.abs m d) := ⟨raw_wf _, rfl⟩
theorem mul (m : Bool) (d : Byte) : Statement (.mul m d) := ⟨raw_wf _, rfl⟩
theorem div (m : Bool) (d : Byte) : Statement (.div m d) := ⟨raw_wf _, rfl⟩
theorem mod (m : Bool) (d : Byte) : Statement (.mod m d) := ⟨raw_wf _, rfl⟩
theorem tse (m : Bool) (d : Byte) : Statement (.tse m d) := ⟨raw_wf _, rfl⟩
theorem tce (m : Bool) (d : Byte) : Statement (.tce m d) := ⟨raw_wf _, rfl⟩
theorem add (m : Bool) (d : Byte) : Statement (.add m d) := ⟨raw_wf _, rfl⟩
theorem sub (m : Bool) (d : Byte) : Statement (.sub m d) := ⟨raw_wf _, rfl⟩
theorem rpl (m : Bool) (d : Byte) : Statement (.rpl m d) := ⟨raw_wf _, rfl⟩
theorem mulh (m : Bool) (d : Byte) : Statement (.mulh m d) := ⟨raw_wf _, rfl⟩
theorem ui (m : Bool) (d : Byte) : Statement (.ui m d) := ⟨raw_wf _, rfl⟩
theorem uo (m : Bool) (d : Byte) : Statement (.uo m d) := ⟨raw_wf _, rfl⟩
theorem uoc (m : Bool) (d : Byte) : Statement (.uoc m d) := ⟨raw_wf _, rfl⟩
theorem uocr (m : Bool) (d : Byte) : Statement (.uocr m d) := ⟨raw_wf _, rfl⟩
theorem prw (m : Bool) (d : Byte) : Statement (.prw m d) := ⟨raw_wf _, rfl⟩
theorem prr (m : Bool) (d : Byte) : Statement (.prr m d) := ⟨raw_wf _, rfl⟩
theorem int (m : Bool) (d : Byte) : Statement (.int m d) := ⟨raw_wf _, rfl⟩
theorem halt (m : Bool) (d : Byte) : Statement (.halt m d) := ⟨raw_wf _, rfl⟩
theorem illegal24 (m : Bool) (d : Byte) : Statement (.illegal24 m d) := ⟨raw_wf _, rfl⟩
theorem illegal25 (m : Bool) (d : Byte) : Statement (.illegal25 m d) := ⟨raw_wf _, rfl⟩
theorem illegal26 (m : Bool) (d : Byte) : Statement (.illegal26 m d) := ⟨raw_wf _, rfl⟩
theorem illegal27 (m : Bool) (d : Byte) : Statement (.illegal27 m d) := ⟨raw_wf _, rfl⟩
theorem illegal28 (m : Bool) (d : Byte) : Statement (.illegal28 m d) := ⟨raw_wf _, rfl⟩
theorem illegal29 (m : Bool) (d : Byte) : Statement (.illegal29 m d) := ⟨raw_wf _, rfl⟩
theorem illegal30 (m : Bool) (d : Byte) : Statement (.illegal30 m d) := ⟨raw_wf _, rfl⟩
theorem illegal31 (m : Bool) (d : Byte) : Statement (.illegal31 m d) := ⟨raw_wf _, rfl⟩
theorem illegal46 (m : Bool) (d : Byte) : Statement (.illegal46 m d) := ⟨raw_wf _, rfl⟩
theorem illegal47 (m : Bool) (d : Byte) : Statement (.illegal47 m d) := ⟨raw_wf _, rfl⟩
theorem illegal52 (m : Bool) (d : Byte) : Statement (.illegal52 m d) := ⟨raw_wf _, rfl⟩
theorem illegal53 (m : Bool) (d : Byte) : Statement (.illegal53 m d) := ⟨raw_wf _, rfl⟩
theorem illegal54 (m : Bool) (d : Byte) : Statement (.illegal54 m d) := ⟨raw_wf _, rfl⟩
theorem illegal55 (m : Bool) (d : Byte) : Statement (.illegal55 m d) := ⟨raw_wf _, rfl⟩
theorem illegal56 (m : Bool) (d : Byte) : Statement (.illegal56 m d) := ⟨raw_wf _, rfl⟩
theorem illegal57 (m : Bool) (d : Byte) : Statement (.illegal57 m d) := ⟨raw_wf _, rfl⟩
theorem illegal58 (m : Bool) (d : Byte) : Statement (.illegal58 m d) := ⟨raw_wf _, rfl⟩
theorem illegal59 (m : Bool) (d : Byte) : Statement (.illegal59 m d) := ⟨raw_wf _, rfl⟩
theorem illegal60 (m : Bool) (d : Byte) : Statement (.illegal60 m d) := ⟨raw_wf _, rfl⟩
theorem illegal61 (m : Bool) (d : Byte) : Statement (.illegal61 m d) := ⟨raw_wf _, rfl⟩
theorem illegal62 (m : Bool) (d : Byte) : Statement (.illegal62 m d) := ⟨raw_wf _, rfl⟩
theorem illegal63 (m : Bool) (d : Byte) : Statement (.illegal63 m d) := ⟨raw_wf _, rfl⟩
theorem illegal64 (m : Bool) (d : Byte) : Statement (.illegal64 m d) := ⟨raw_wf _, rfl⟩
theorem illegal65 (m : Bool) (d : Byte) : Statement (.illegal65 m d) := ⟨raw_wf _, rfl⟩
theorem illegal66 (m : Bool) (d : Byte) : Statement (.illegal66 m d) := ⟨raw_wf _, rfl⟩
theorem illegal67 (m : Bool) (d : Byte) : Statement (.illegal67 m d) := ⟨raw_wf _, rfl⟩
theorem illegal68 (m : Bool) (d : Byte) : Statement (.illegal68 m d) := ⟨raw_wf _, rfl⟩
theorem illegal69 (m : Bool) (d : Byte) : Statement (.illegal69 m d) := ⟨raw_wf _, rfl⟩
theorem illegal70 (m : Bool) (d : Byte) : Statement (.illegal70 m d) := ⟨raw_wf _, rfl⟩
theorem illegal71 (m : Bool) (d : Byte) : Statement (.illegal71 m d) := ⟨raw_wf _, rfl⟩
theorem illegal72 (m : Bool) (d : Byte) : Statement (.illegal72 m d) := ⟨raw_wf _, rfl⟩
theorem illegal73 (m : Bool) (d : Byte) : Statement (.illegal73 m d) := ⟨raw_wf _, rfl⟩
theorem illegal74 (m : Bool) (d : Byte) : Statement (.illegal74 m d) := ⟨raw_wf _, rfl⟩
theorem illegal75 (m : Bool) (d : Byte) : Statement (.illegal75 m d) := ⟨raw_wf _, rfl⟩
theorem illegal76 (m : Bool) (d : Byte) : Statement (.illegal76 m d) := ⟨raw_wf _, rfl⟩
theorem illegal77 (m : Bool) (d : Byte) : Statement (.illegal77 m d) := ⟨raw_wf _, rfl⟩
theorem illegal78 (m : Bool) (d : Byte) : Statement (.illegal78 m d) := ⟨raw_wf _, rfl⟩
theorem illegal79 (m : Bool) (d : Byte) : Statement (.illegal79 m d) := ⟨raw_wf _, rfl⟩
theorem illegal80 (m : Bool) (d : Byte) : Statement (.illegal80 m d) := ⟨raw_wf _, rfl⟩
theorem illegal81 (m : Bool) (d : Byte) : Statement (.illegal81 m d) := ⟨raw_wf _, rfl⟩
theorem illegal82 (m : Bool) (d : Byte) : Statement (.illegal82 m d) := ⟨raw_wf _, rfl⟩
theorem illegal83 (m : Bool) (d : Byte) : Statement (.illegal83 m d) := ⟨raw_wf _, rfl⟩
theorem illegal84 (m : Bool) (d : Byte) : Statement (.illegal84 m d) := ⟨raw_wf _, rfl⟩
theorem illegal85 (m : Bool) (d : Byte) : Statement (.illegal85 m d) := ⟨raw_wf _, rfl⟩
theorem illegal86 (m : Bool) (d : Byte) : Statement (.illegal86 m d) := ⟨raw_wf _, rfl⟩
theorem illegal87 (m : Bool) (d : Byte) : Statement (.illegal87 m d) := ⟨raw_wf _, rfl⟩
theorem illegal88 (m : Bool) (d : Byte) : Statement (.illegal88 m d) := ⟨raw_wf _, rfl⟩
theorem illegal89 (m : Bool) (d : Byte) : Statement (.illegal89 m d) := ⟨raw_wf _, rfl⟩
theorem illegal90 (m : Bool) (d : Byte) : Statement (.illegal90 m d) := ⟨raw_wf _, rfl⟩
theorem illegal91 (m : Bool) (d : Byte) : Statement (.illegal91 m d) := ⟨raw_wf _, rfl⟩
theorem illegal92 (m : Bool) (d : Byte) : Statement (.illegal92 m d) := ⟨raw_wf _, rfl⟩
theorem illegal93 (m : Bool) (d : Byte) : Statement (.illegal93 m d) := ⟨raw_wf _, rfl⟩
theorem illegal94 (m : Bool) (d : Byte) : Statement (.illegal94 m d) := ⟨raw_wf _, rfl⟩
theorem illegal95 (m : Bool) (d : Byte) : Statement (.illegal95 m d) := ⟨raw_wf _, rfl⟩
theorem illegal96 (m : Bool) (d : Byte) : Statement (.illegal96 m d) := ⟨raw_wf _, rfl⟩
theorem illegal97 (m : Bool) (d : Byte) : Statement (.illegal97 m d) := ⟨raw_wf _, rfl⟩
theorem illegal98 (m : Bool) (d : Byte) : Statement (.illegal98 m d) := ⟨raw_wf _, rfl⟩
theorem illegal99 (m : Bool) (d : Byte) : Statement (.illegal99 m d) := ⟨raw_wf _, rfl⟩
theorem illegal100 (m : Bool) (d : Byte) : Statement (.illegal100 m d) := ⟨raw_wf _, rfl⟩
theorem illegal101 (m : Bool) (d : Byte) : Statement (.illegal101 m d) := ⟨raw_wf _, rfl⟩
theorem illegal102 (m : Bool) (d : Byte) : Statement (.illegal102 m d) := ⟨raw_wf _, rfl⟩
theorem illegal103 (m : Bool) (d : Byte) : Statement (.illegal103 m d) := ⟨raw_wf _, rfl⟩
theorem illegal104 (m : Bool) (d : Byte) : Statement (.illegal104 m d) := ⟨raw_wf _, rfl⟩
theorem illegal105 (m : Bool) (d : Byte) : Statement (.illegal105 m d) := ⟨raw_wf _, rfl⟩
theorem illegal106 (m : Bool) (d : Byte) : Statement (.illegal106 m d) := ⟨raw_wf _, rfl⟩
theorem illegal107 (m : Bool) (d : Byte) : Statement (.illegal107 m d) := ⟨raw_wf _, rfl⟩
theorem illegal108 (m : Bool) (d : Byte) : Statement (.illegal108 m d) := ⟨raw_wf _, rfl⟩
theorem illegal109 (m : Bool) (d : Byte) : Statement (.illegal109 m d) := ⟨raw_wf _, rfl⟩
theorem illegal110 (m : Bool) (d : Byte) : Statement (.illegal110 m d) := ⟨raw_wf _, rfl⟩
theorem illegal111 (m : Bool) (d : Byte) : Statement (.illegal111 m d) := ⟨raw_wf _, rfl⟩
theorem illegal114 (m : Bool) (d : Byte) : Statement (.illegal114 m d) := ⟨raw_wf _, rfl⟩
theorem illegal115 (m : Bool) (d : Byte) : Statement (.illegal115 m d) := ⟨raw_wf _, rfl⟩
theorem illegal116 (m : Bool) (d : Byte) : Statement (.illegal116 m d) := ⟨raw_wf _, rfl⟩
theorem illegal117 (m : Bool) (d : Byte) : Statement (.illegal117 m d) := ⟨raw_wf _, rfl⟩
theorem illegal118 (m : Bool) (d : Byte) : Statement (.illegal118 m d) := ⟨raw_wf _, rfl⟩
theorem illegal119 (m : Bool) (d : Byte) : Statement (.illegal119 m d) := ⟨raw_wf _, rfl⟩
theorem illegal120 (m : Bool) (d : Byte) : Statement (.illegal120 m d) := ⟨raw_wf _, rfl⟩
theorem illegal121 (m : Bool) (d : Byte) : Statement (.illegal121 m d) := ⟨raw_wf _, rfl⟩
theorem illegal122 (m : Bool) (d : Byte) : Statement (.illegal122 m d) := ⟨raw_wf _, rfl⟩
theorem illegal123 (m : Bool) (d : Byte) : Statement (.illegal123 m d) := ⟨raw_wf _, rfl⟩
theorem illegal124 (m : Bool) (d : Byte) : Statement (.illegal124 m d) := ⟨raw_wf _, rfl⟩
theorem illegal125 (m : Bool) (d : Byte) : Statement (.illegal125 m d) := ⟨raw_wf _, rfl⟩

end Sys2Proof.Laws.RawFields
end

