-- ==== Sys2Proof/Laws/Decode.lean ====
section
/-! SUPPORT. The laws of the encoding's fields and bytes, by way of plain numbers. -/

namespace Sys2Proof

/-- The number two bytes hold. -/
theorem wordOfBytes_toNat (low high : Byte) : (wordOfBytes low high).toNat = 256 * high.toNat + low.toNat := by
  change (high ++ low : BitVec (8 + 8)).toNat = _
  rw [BitVec.toNat_append, ← Nat.shiftLeft_add_eq_or_of_lt low.isLt, Nat.shiftLeft_eq]
  omega

theorem lowByte_toNat (w : Word16) : (lowByte w).toNat = w.toNat % 256 := by
  change (w.extractLsb 7 0).toNat = _
  rw [BitVec.extractLsb_toNat]; simp

theorem highByte_toNat (w : Word16) : (highByte w).toNat = w.toNat / 256 := by
  change (w.extractLsb 15 8).toNat = _
  have := w.isLt
  rw [BitVec.extractLsb_toNat, Nat.shiftRight_eq_div_pow]; simp; omega

theorem opcodeField_toNat (w : Word16) : (opcodeField w).toNat = w.toNat % 128 := by
  change (w.extractLsb 6 0).toNat = _
  rw [BitVec.extractLsb_toNat]; simp

theorem dataField_toNat (w : Word16) : (dataField w).toNat = w.toNat / 128 % 256 := by
  change (w.extractLsb 14 7).toNat = _
  rw [BitVec.extractLsb_toNat, Nat.shiftRight_eq_div_pow]

theorem flagField_toNat (w : Word16) : (flagField w).toNat = w.toNat / 32768 := by
  have := w.isLt
  rw [flagField, BitVec.getLsbD, Nat.testBit, Nat.shiftRight_eq_div_pow, Nat.one_and_eq_mod_two]
  rcases (by omega : w.toNat / 2 ^ 15 = 0 ∨ w.toNat / 2 ^ 15 = 1) with h | h <;> rw [h] <;> simp <;> omega

/-- The number a field triple encodes: `M * 2^15 + d * 2^7 + opcode`. -/
theorem encodeFields_toNat (m : Bool) (d : Byte) (op : Opcode) :
    (encodeFields m d op).toNat = 32768 * m.toNat + 128 * d.toNat + op.toNat := by
  have hd := d.isLt
  have ho := op.isLt
  have h1 : (((BitVec.ofBool m).setWidth 16 <<< 15 : BitVec 16)).toNat = m.toNat <<< 15 := by cases m <;> rfl
  have h2 : ((d.setWidth 16 <<< 7 : BitVec 16)).toNat = d.toNat <<< 7 := by
    simp [Nat.shiftLeft_eq]; omega
  have h3 : ((op.setWidth 16 : BitVec 16)).toNat = op.toNat := by simp; omega
  have h4 : d.toNat <<< 7 < 2 ^ 15 := by rw [Nat.shiftLeft_eq]; omega
  rw [encodeFields, BitVec.toNat_or, BitVec.toNat_or, h1, h2, h3, ← Nat.shiftLeft_add_eq_or_of_lt h4]
  have h5 : m.toNat <<< 15 + d.toNat <<< 7 = (256 * m.toNat + d.toNat) <<< 7 := by
    simp only [Nat.shiftLeft_eq]; omega
  rw [h5, ← Nat.shiftLeft_add_eq_or_of_lt ho, Nat.shiftLeft_eq]
  omega

@[simp] theorem wordOfBytes_lowByte_highByte (w : Word16) : wordOfBytes (lowByte w) (highByte w) = w := by
  apply BitVec.eq_of_toNat_eq
  rw [wordOfBytes_toNat, lowByte_toNat, highByte_toNat]
  omega

@[simp] theorem lowByte_wordOfBytes (low high : Byte) : lowByte (wordOfBytes low high) = low := by
  apply BitVec.eq_of_toNat_eq
  rw [lowByte_toNat, wordOfBytes_toNat]
  have := low.isLt
  omega

@[simp] theorem highByte_wordOfBytes (low high : Byte) : highByte (wordOfBytes low high) = high := by
  apply BitVec.eq_of_toNat_eq
  rw [highByte_toNat, wordOfBytes_toNat]
  have := low.isLt
  omega

/-- The decoder of bytes reads the word the two bytes hold. -/
@[simp] theorem decode_cons_cons (low high : Byte) (rest : List Byte) :
    decode (low :: high :: rest) = .ok (decodeWord (wordOfBytes low high), rest) := rfl

@[simp] theorem flagField_encodeFields (m : Bool) (d : Byte) (op : Opcode) :
    flagField (encodeFields m d op) = m := by
  have h := flagField_toNat (encodeFields m d op)
  rw [encodeFields_toNat] at h
  have hd := d.isLt
  have ho := op.isLt
  have h' : (flagField (encodeFields m d op)).toNat = m.toNat := by omega
  revert h'
  generalize flagField (encodeFields m d op) = x
  cases x <;> cases m <;> simp

@[simp] theorem dataField_encodeFields (m : Bool) (d : Byte) (op : Opcode) :
    dataField (encodeFields m d op) = d := by
  apply BitVec.eq_of_toNat_eq
  rw [dataField_toNat, encodeFields_toNat]
  have hd := d.isLt
  have ho := op.isLt
  omega

@[simp] theorem opcodeField_encodeFields (m : Bool) (d : Byte) (op : Opcode) :
    opcodeField (encodeFields m d op) = op := by
  apply BitVec.eq_of_toNat_eq
  rw [opcodeField_toNat, encodeFields_toNat]
  have hd := d.isLt
  have ho := op.isLt
  omega

/-- A word is determined by its three fields. -/
theorem word_eq_of_fields {w w' : Word16} (hm : flagField w = flagField w') (hd : dataField w = dataField w')
    (ho : opcodeField w = opcodeField w') : w = w' := by
  have h1 := flagField_toNat w
  have h2 := dataField_toNat w
  have h3 := opcodeField_toNat w
  rw [hm, flagField_toNat] at h1
  rw [hd, dataField_toNat] at h2
  rw [ho, opcodeField_toNat] at h3
  apply BitVec.eq_of_toNat_eq
  omega

end Sys2Proof
end

