-- ==== Sys2Proof/Laws/Flags.lean ====
section
/-! SUPPORT. What the arithmetic, logic and shift computations give, in plain numbers. -/

namespace Sys2Proof.Machine

theorem addCarry_value (a b : Byte) (cin : Bool) :
    (addCarry a b cin).1.toNat = (a.toNat + b.toNat + cin.toNat) % 256 := by
  simp [addCarry]

theorem addCarry_carry (a b : Byte) (cin : Bool) :
    (addCarry a b cin).2 = decide (255 < a.toNat + b.toNat + cin.toNat) := rfl

theorem subBorrow_value (a b : Byte) (cin : Bool) :
    ((subBorrow a b cin).1.toNat : Int) = ((a.toNat : Int) - b.toNat - cin.toNat) % 256 := by
  simp only [subBorrow, BitVec.toNat_ofInt]
  omega

theorem subBorrow_carry (a b : Byte) (cin : Bool) :
    (subBorrow a b cin).2 = decide (a.toNat < b.toNat + cin.toNat) := by
  simp only [subBorrow, decide_eq_decide]
  omega

theorem shiftLeftCarry_value (a b : Byte) (cin : Bool) :
    (shiftLeftCarry a b cin).1.toNat = ((a.toNat <<< b.toNat) ||| cin.toNat) % 256 := by
  simp only [shiftLeftCarry, BitVec.toNat_ofNat]

theorem shiftLeftCarry_carry (a b : Byte) (cin : Bool) :
    (shiftLeftCarry a b cin).2 = decide (255 < (a.toNat <<< b.toNat) ||| cin.toNat) := rfl

theorem shiftRightCarry_value (a b : Byte) (cin : Bool) :
    (shiftRightCarry a b cin).1.toNat = ((a.toNat >>> b.toNat) ||| (cin.toNat <<< 7)) % 256 := by
  simp only [shiftRightCarry, BitVec.toNat_ofNat]

/-- The bits shifted out are the remainder by the power of two. -/
theorem shiftRightCarry_carry (a b : Byte) (cin : Bool) :
    (shiftRightCarry a b cin).2 = decide (a.toNat % 2 ^ b.toNat ≠ 0) := by
  simp only [shiftRightCarry, Nat.one_shiftLeft, Nat.and_two_pow_sub_one_eq_mod]

theorem complement_value (a : Byte) : (complement a).toNat = 255 - a.toNat := by
  have := a.isLt
  simp [complement]
  omega

theorem compareUnsigned_value (a b : Byte) : (compareUnsigned a b).toNat =
    if b.toNat < a.toNat then 1 else if a.toNat = b.toNat then 0 else 255 := by
  unfold compareUnsigned
  split
  · rfl
  · split <;> rfl

theorem absolute_value (a : Byte) : (absolute a).toNat =
    if 128 ≤ a.toNat then 256 - a.toNat else a.toNat := by
  have ha := a.isLt
  have hb : a.getLsbD 7 = decide (128 ≤ a.toNat) := by
    rw [BitVec.getLsbD, Nat.testBit, Nat.shiftRight_eq_div_pow, Nat.one_and_eq_mod_two]
    rcases (by omega : a.toNat / 2 ^ 7 = 0 ∨ a.toNat / 2 ^ 7 = 1) with h | h <;> rw [h] <;> simp <;> omega
  unfold absolute
  rw [hb]
  by_cases h : 128 ≤ a.toNat
  · simp [h]; omega
  · simp [h]

theorem productLow_value (a b : Byte) : (productLow a b).toNat = a.toNat * b.toNat % 256 := by
  simp [productLow]

/-- The product of two bytes fits sixteen bits. -/
theorem product_lt (a b : Byte) : a.toNat * b.toNat ≤ 65025 := by
  have := Nat.mul_le_mul (Nat.le_of_lt_succ a.isLt) (Nat.le_of_lt_succ b.isLt)
  simpa using this

theorem productHigh_value (a b : Byte) : (productHigh a b).toNat = a.toNat * b.toNat / 256 := by
  have := product_lt a b
  simp only [productHigh, BitVec.toNat_ofNat, Nat.shiftRight_eq_div_pow]
  omega

theorem quotient_value (a b : Byte) : (quotient a b).toNat = a.toNat / b.toNat := by
  have := Nat.div_le_self a.toNat b.toNat
  have := a.isLt
  simp only [quotient, BitVec.toNat_ofNat]
  exact Nat.mod_eq_of_lt (by omega)

theorem remainder_value (a b : Byte) : (remainder a b).toNat = a.toNat % b.toNat := by
  have := Nat.mod_le a.toNat b.toNat
  have := a.isLt
  simp only [remainder, BitVec.toNat_ofNat]
  omega

theorem reciprocal_value (b : Byte) :
    (reciprocal b).toNat = if b.toNat = 0 then 255 else 255 / b.toNat := by
  have := Nat.div_le_self 255 b.toNat
  unfold reciprocal
  split
  · rfl
  · simp only [BitVec.toNat_ofNat]; exact Nat.mod_eq_of_lt (by omega)

theorem isNegative_iff (a : Byte) : isNegative a = decide (128 ≤ a.toNat) := by
  have ha := a.isLt
  rw [isNegative, BitVec.getLsbD, Nat.testBit, Nat.shiftRight_eq_div_pow, Nat.one_and_eq_mod_two]
  rcases (by omega : a.toNat / 2 ^ 7 = 0 ∨ a.toNat / 2 ^ 7 = 1) with h | h <;> rw [h] <;> simp <;> omega

/-- The tables hold an entry for every index: sixteen rows of sixteen. -/
theorem sinTable_shape : sinTable.length = 16 ∧ ∀ row ∈ sinTable, row.length = 16 := by decide

theorem cosTable_shape : cosTable.length = 16 ∧ ∀ row ∈ cosTable, row.length = 16 := by decide

end Sys2Proof.Machine
end

