-- ==== Sys2Proof/Laws/Memory.lean ====
section
/-! SUPPORT. The laws of the memory operations: what a read gives after a write, and that every operation keeps the
canonical form. -/

namespace Sys2Proof

variable {w : Nat}

@[simp] theorem Memory.read_nil (a : Nat) : Memory.read ([] : Memory w) a = 0 := rfl

theorem Memory.read_erase_same (m : Memory w) (a : Nat) : (m.erase a).read a = 0 := by
  induction m with
  | nil => rfl
  | cons c m ih =>
    obtain ⟨k, v⟩ := c
    by_cases h : k = a
    · subst h; simpa [Memory.erase] using ih
    · simpa [Memory.erase, Memory.read, h] using ih

theorem Memory.read_erase_other (m : Memory w) {a b : Nat} (h : b ≠ a) : (m.erase a).read b = m.read b := by
  induction m with
  | nil => rfl
  | cons c m ih =>
    obtain ⟨k, v⟩ := c
    by_cases hk : k = a
    · subst hk
      have : (Memory.erase ((k, v) :: m) k) = Memory.erase m k := by simp [Memory.erase]
      rw [this, ih]; simp [Memory.read, h.symm]
    · have : (Memory.erase ((k, v) :: m) a) = (k, v) :: Memory.erase m a := by simp [Memory.erase, hk]
      rw [this]; simp [Memory.read, ih]

theorem Memory.read_insert_other (m : Memory w) {a b : Nat} (v : BitVec w) (h : b ≠ a) :
    (m.insert a v).read b = m.read b := by
  induction m with
  | nil => simp [Memory.insert, Memory.read, h.symm]
  | cons c m ih =>
    obtain ⟨k, x⟩ := c
    unfold Memory.insert
    split
    · simp [Memory.read, h.symm]
    · simp [Memory.read, ih]

theorem Memory.read_insert_same (m : Memory w) (a : Nat) (v : BitVec w) (h : ∀ c ∈ m, c.1 ≠ a) :
    (m.insert a v).read a = v := by
  induction m with
  | nil => simp [Memory.insert, Memory.read]
  | cons c m ih =>
    obtain ⟨k, x⟩ := c
    have hk : k ≠ a := h (k, x) (by simp)
    unfold Memory.insert
    split
    · simp [Memory.read]
    · simpa [Memory.read, hk] using ih (fun c hc => h c (by simp [hc]))

theorem Memory.erase_ne (m : Memory w) (a : Nat) : ∀ c ∈ m.erase a, c.1 ≠ a := by
  intro c hc
  simpa using (List.mem_filter.1 hc).2

/-- A read after a write to the same address gives the value written, in any list. -/
@[simp] theorem Memory.read_write_same (m : Memory w) (a : Nat) (v : BitVec w) : (m.write a v).read a = v := by
  unfold Memory.write
  split
  · next h => rw [h, Memory.read_erase_same]
  · exact Memory.read_insert_same _ _ _ (Memory.erase_ne m a)

/-- A write leaves every other address alone, in any list. -/
theorem Memory.read_write_other (m : Memory w) {a b : Nat} (v : BitVec w) (h : b ≠ a) :
    (m.write a v).read b = m.read b := by
  unfold Memory.write
  split
  · exact Memory.read_erase_other m h
  · rw [Memory.read_insert_other _ _ h, Memory.read_erase_other m h]

/-- Both cases of a read after a write. -/
theorem Memory.read_write (m : Memory w) (a b : Nat) (v : BitVec w) :
    (m.write a v).read b = if b = a then v else m.read b := by
  split
  · next h => rw [h, Memory.read_write_same]
  · next h => exact Memory.read_write_other m v h

/-- The canonical form as propositions. -/
theorem Memory.wf_iff (size : Nat) (m : Memory w) :
    m.wf size = true ↔ m.Pairwise (fun c c' => c.1 < c'.1) ∧ ∀ c ∈ m, c.1 < size ∧ c.2 ≠ 0 := by
  simp [Memory.wf]

theorem Memory.mem_insert (m : Memory w) (a : Nat) (v : BitVec w) {c : Nat × BitVec w} :
    c ∈ m.insert a v ↔ c = (a, v) ∨ c ∈ m := by
  induction m with
  | nil => simp [Memory.insert]
  | cons x m ih =>
    obtain ⟨k, y⟩ := x
    unfold Memory.insert
    split
    · simp
    · simp only [List.mem_cons, ih]
      tauto

theorem Memory.pairwise_insert (m : Memory w) (a : Nat) (v : BitVec w) (hs : m.Pairwise (fun c c' => c.1 < c'.1))
    (hne : ∀ c ∈ m, c.1 ≠ a) : (m.insert a v).Pairwise (fun c c' => c.1 < c'.1) := by
  induction m with
  | nil => simp [Memory.insert]
  | cons x m ih =>
    obtain ⟨k, y⟩ := x
    obtain ⟨hk, hs'⟩ := List.pairwise_cons.1 hs
    have hka : k ≠ a := hne (k, y) (by simp)
    unfold Memory.insert
    split
    · next h =>
      refine List.pairwise_cons.2 ⟨?_, hs⟩
      intro c hc
      rcases List.mem_cons.1 hc with rfl | hc
      · exact h
      · exact lt_trans h (hk c hc)
    · next h =>
      refine List.pairwise_cons.2 ⟨?_, ih hs' (fun c hc => hne c (by simp [hc]))⟩
      intro c hc
      rcases (Memory.mem_insert m a v).1 hc with rfl | hc
      · change k < a; omega
      · exact hk c hc

/-- A write inside the space keeps the canonical form. -/
theorem Memory.wf_write {size : Nat} {m : Memory w} (h : m.wf size = true) {a : Nat} (ha : a < size) (v : BitVec w) :
    (m.write a v).wf size = true := by
  rw [Memory.wf_iff] at h ⊢
  obtain ⟨hs, hm⟩ := h
  have hes : (m.erase a).Pairwise (fun c c' => c.1 < c'.1) := hs.filter _
  have hem : ∀ c ∈ m.erase a, c.1 < size ∧ c.2 ≠ 0 := fun c hc => hm c (List.mem_filter.1 hc).1
  unfold Memory.write
  split
  · exact ⟨hes, hem⟩
  · next hv =>
    refine ⟨Memory.pairwise_insert _ _ _ hes (Memory.erase_ne m a), fun c hc => ?_⟩
    rcases (Memory.mem_insert _ _ _).1 hc with rfl | hc
    · exact ⟨ha, hv⟩
    · exact hem c hc

/-- Writes at addresses of `n` bits keep the canonical form of a memory of `2 ^ n` cells. -/
theorem Memory.wf_writeAll {n size : Nat} {m : Memory w} (h : m.wf size = true) (hn : 2 ^ n ≤ size)
    (writes : List (BitVec n × BitVec w)) : (m.writeAll writes).wf size = true := by
  unfold Memory.writeAll
  induction writes generalizing m with
  | nil => exact h
  | cons p ps ih => exact ih (Memory.wf_write h (lt_of_lt_of_le p.1.isLt hn) _)

/-- Copied bytes keep the canonical form when they fit. -/
theorem Memory.wf_copyFrom {size : Nat} {m : Memory 8} (h : m.wf size = true) (base : Nat) (bytes : List Byte)
    (hb : base + bytes.length ≤ size) : (m.copyFrom base bytes).wf size = true := by
  induction bytes generalizing m base with
  | nil => exact h
  | cons b bs ih =>
    rw [List.length_cons] at hb
    exact ih (Memory.wf_write h (by omega) b) (base + 1) (by omega)

/-- What a copied region reads as, and that the copy leaves the rest alone. -/
theorem Memory.read_copyFrom (m : Memory 8) (base : Nat) (bytes : List Byte) (a : Nat) :
    (m.copyFrom base bytes).read a =
      if base ≤ a ∧ a < base + bytes.length then bytes.getD (a - base) 0 else m.read a := by
  induction bytes generalizing m base with
  | nil => simp [Memory.copyFrom]
  | cons b bs ih =>
    rw [Memory.copyFrom, ih, Memory.read_write]
    by_cases h1 : a = base
    · subst h1; simp
    · by_cases h2 : base + 1 ≤ a ∧ a < base + 1 + bs.length
      · have h3 : base ≤ a ∧ a < base + (b :: bs).length := by simp; omega
        obtain ⟨k, hk⟩ : ∃ k, a - base = k + 1 := ⟨a - base - 1, by omega⟩
        have hk' : a - (base + 1) = k := by omega
        rw [if_pos h2, if_pos h3, hk, hk']
        simp
      · have h3 : ¬ (base ≤ a ∧ a < base + (b :: bs).length) := by simp; omega
        rw [if_neg h2, if_neg h3, if_neg h1]

end Sys2Proof
end

