-- ==== Sys2Proof/Laws/State.lean ====
section
/-! SUPPORT. One lemma per field per update of the state, so that no proof unfolds a record update. -/

namespace Sys2Proof.Machine

variable (s : State)

@[simp] theorem setAcc_acc (v : Byte) : (setAcc v s).acc = v := rfl
@[simp] theorem setAcc_bacc (v : Byte) : (setAcc v s).bacc = s.bacc := rfl
@[simp] theorem setAcc_pc (v : Byte) : (setAcc v s).pc = s.pc := rfl
@[simp] theorem setAcc_accStackPointer (v : Byte) : (setAcc v s).accStackPointer = s.accStackPointer := rfl
@[simp] theorem setAcc_adrStackPointer (v : Byte) : (setAcc v s).adrStackPointer = s.adrStackPointer := rfl
@[simp] theorem setAcc_carryFlag (v : Byte) : (setAcc v s).carryFlag = s.carryFlag := rfl
@[simp] theorem setAcc_cachePage (v : Byte) : (setAcc v s).cachePage = s.cachePage := rfl
@[simp] theorem setAcc_romPage (v : Byte) : (setAcc v s).romPage = s.romPage := rfl
@[simp] theorem setAcc_interruptRegister (v : Byte) : (setAcc v s).interruptRegister = s.interruptRegister := rfl
@[simp] theorem setAcc_programStore (v : Byte) : (setAcc v s).programStore = s.programStore := rfl
@[simp] theorem setAcc_dataBank (v : Byte) : (setAcc v s).dataBank = s.dataBank := rfl
@[simp] theorem setAcc_accStack (v : Byte) : (setAcc v s).accStack = s.accStack := rfl
@[simp] theorem setAcc_adrStack (v : Byte) : (setAcc v s).adrStack = s.adrStack := rfl
@[simp] theorem setAcc_ports (v : Byte) : (setAcc v s).ports = s.ports := rfl
@[simp] theorem setAcc_tickCounter (v : Byte) : (setAcc v s).tickCounter = s.tickCounter := rfl
@[simp] theorem setAcc_instructionCounter (v : Byte) : (setAcc v s).instructionCounter = s.instructionCounter := rfl
@[simp] theorem setAcc_extNames (v : Byte) : (setAcc v s).extNames = s.extNames := rfl
@[simp] theorem setAcc_registry (v : Byte) : (setAcc v s).registry = s.registry := rfl
@[simp] theorem setAcc_stopRequested (v : Byte) : (setAcc v s).stopRequested = s.stopRequested := rfl
@[simp] theorem setAcc_draws (v : Byte) : (setAcc v s).draws = s.draws := rfl
@[simp] theorem setAcc_trace (v : Byte) : (setAcc v s).trace = s.trace := rfl
@[simp] theorem setAcc_ended (v : Byte) : (setAcc v s).ended = s.ended := rfl

@[simp] theorem setCarry_acc (c : Bool) : (setCarry c s).acc = s.acc := rfl
@[simp] theorem setCarry_bacc (c : Bool) : (setCarry c s).bacc = s.bacc := rfl
@[simp] theorem setCarry_pc (c : Bool) : (setCarry c s).pc = s.pc := rfl
@[simp] theorem setCarry_accStackPointer (c : Bool) : (setCarry c s).accStackPointer = s.accStackPointer := rfl
@[simp] theorem setCarry_adrStackPointer (c : Bool) : (setCarry c s).adrStackPointer = s.adrStackPointer := rfl
@[simp] theorem setCarry_carryFlag (c : Bool) : (setCarry c s).carryFlag = c := rfl
@[simp] theorem setCarry_cachePage (c : Bool) : (setCarry c s).cachePage = s.cachePage := rfl
@[simp] theorem setCarry_romPage (c : Bool) : (setCarry c s).romPage = s.romPage := rfl
@[simp] theorem setCarry_interruptRegister (c : Bool) : (setCarry c s).interruptRegister = s.interruptRegister := rfl
@[simp] theorem setCarry_programStore (c : Bool) : (setCarry c s).programStore = s.programStore := rfl
@[simp] theorem setCarry_dataBank (c : Bool) : (setCarry c s).dataBank = s.dataBank := rfl
@[simp] theorem setCarry_accStack (c : Bool) : (setCarry c s).accStack = s.accStack := rfl
@[simp] theorem setCarry_adrStack (c : Bool) : (setCarry c s).adrStack = s.adrStack := rfl
@[simp] theorem setCarry_ports (c : Bool) : (setCarry c s).ports = s.ports := rfl
@[simp] theorem setCarry_tickCounter (c : Bool) : (setCarry c s).tickCounter = s.tickCounter := rfl
@[simp] theorem setCarry_instructionCounter (c : Bool) : (setCarry c s).instructionCounter = s.instructionCounter := rfl
@[simp] theorem setCarry_extNames (c : Bool) : (setCarry c s).extNames = s.extNames := rfl
@[simp] theorem setCarry_registry (c : Bool) : (setCarry c s).registry = s.registry := rfl
@[simp] theorem setCarry_stopRequested (c : Bool) : (setCarry c s).stopRequested = s.stopRequested := rfl
@[simp] theorem setCarry_draws (c : Bool) : (setCarry c s).draws = s.draws := rfl
@[simp] theorem setCarry_trace (c : Bool) : (setCarry c s).trace = s.trace := rfl
@[simp] theorem setCarry_ended (c : Bool) : (setCarry c s).ended = s.ended := rfl

@[simp] theorem setAccCarry_acc (p : Byte × Bool) : (setAccCarry p s).acc = p.1 := rfl
@[simp] theorem setAccCarry_bacc (p : Byte × Bool) : (setAccCarry p s).bacc = s.bacc := rfl
@[simp] theorem setAccCarry_pc (p : Byte × Bool) : (setAccCarry p s).pc = s.pc := rfl
@[simp] theorem setAccCarry_accStackPointer (p : Byte × Bool) : (setAccCarry p s).accStackPointer = s.accStackPointer := rfl
@[simp] theorem setAccCarry_adrStackPointer (p : Byte × Bool) : (setAccCarry p s).adrStackPointer = s.adrStackPointer := rfl
@[simp] theorem setAccCarry_carryFlag (p : Byte × Bool) : (setAccCarry p s).carryFlag = p.2 := rfl
@[simp] theorem setAccCarry_cachePage (p : Byte × Bool) : (setAccCarry p s).cachePage = s.cachePage := rfl
@[simp] theorem setAccCarry_romPage (p : Byte × Bool) : (setAccCarry p s).romPage = s.romPage := rfl
@[simp] theorem setAccCarry_interruptRegister (p : Byte × Bool) : (setAccCarry p s).interruptRegister = s.interruptRegister := rfl
@[simp] theorem setAccCarry_programStore (p : Byte × Bool) : (setAccCarry p s).programStore = s.programStore := rfl
@[simp] theorem setAccCarry_dataBank (p : Byte × Bool) : (setAccCarry p s).dataBank = s.dataBank := rfl
@[simp] theorem setAccCarry_accStack (p : Byte × Bool) : (setAccCarry p s).accStack = s.accStack := rfl
@[simp] theorem setAccCarry_adrStack (p : Byte × Bool) : (setAccCarry p s).adrStack = s.adrStack := rfl
@[simp] theorem setAccCarry_ports (p : Byte × Bool) : (setAccCarry p s).ports = s.ports := rfl
@[simp] theorem setAccCarry_tickCounter (p : Byte × Bool) : (setAccCarry p s).tickCounter = s.tickCounter := rfl
@[simp] theorem setAccCarry_instructionCounter (p : Byte × Bool) : (setAccCarry p s).instructionCounter = s.instructionCounter := rfl
@[simp] theorem setAccCarry_extNames (p : Byte × Bool) : (setAccCarry p s).extNames = s.extNames := rfl
@[simp] theorem setAccCarry_registry (p : Byte × Bool) : (setAccCarry p s).registry = s.registry := rfl
@[simp] theorem setAccCarry_stopRequested (p : Byte × Bool) : (setAccCarry p s).stopRequested = s.stopRequested := rfl
@[simp] theorem setAccCarry_draws (p : Byte × Bool) : (setAccCarry p s).draws = s.draws := rfl
@[simp] theorem setAccCarry_trace (p : Byte × Bool) : (setAccCarry p s).trace = s.trace := rfl
@[simp] theorem setAccCarry_ended (p : Byte × Bool) : (setAccCarry p s).ended = s.ended := rfl

@[simp] theorem setCachePage_acc (v : Byte) : (setCachePage v s).acc = s.acc := rfl
@[simp] theorem setCachePage_bacc (v : Byte) : (setCachePage v s).bacc = s.bacc := rfl
@[simp] theorem setCachePage_pc (v : Byte) : (setCachePage v s).pc = s.pc := rfl
@[simp] theorem setCachePage_accStackPointer (v : Byte) : (setCachePage v s).accStackPointer = s.accStackPointer := rfl
@[simp] theorem setCachePage_adrStackPointer (v : Byte) : (setCachePage v s).adrStackPointer = s.adrStackPointer := rfl
@[simp] theorem setCachePage_carryFlag (v : Byte) : (setCachePage v s).carryFlag = s.carryFlag := rfl
@[simp] theorem setCachePage_cachePage (v : Byte) : (setCachePage v s).cachePage = v := rfl
@[simp] theorem setCachePage_romPage (v : Byte) : (setCachePage v s).romPage = s.romPage := rfl
@[simp] theorem setCachePage_interruptRegister (v : Byte) : (setCachePage v s).interruptRegister = s.interruptRegister := rfl
@[simp] theorem setCachePage_programStore (v : Byte) : (setCachePage v s).programStore = s.programStore := rfl
@[simp] theorem setCachePage_dataBank (v : Byte) : (setCachePage v s).dataBank = s.dataBank := rfl
@[simp] theorem setCachePage_accStack (v : Byte) : (setCachePage v s).accStack = s.accStack := rfl
@[simp] theorem setCachePage_adrStack (v : Byte) : (setCachePage v s).adrStack = s.adrStack := rfl
@[simp] theorem setCachePage_ports (v : Byte) : (setCachePage v s).ports = s.ports := rfl
@[simp] theorem setCachePage_tickCounter (v : Byte) : (setCachePage v s).tickCounter = s.tickCounter := rfl
@[simp] theorem setCachePage_instructionCounter (v : Byte) : (setCachePage v s).instructionCounter = s.instructionCounter := rfl
@[simp] theorem setCachePage_extNames (v : Byte) : (setCachePage v s).extNames = s.extNames := rfl
@[simp] theorem setCachePage_registry (v : Byte) : (setCachePage v s).registry = s.registry := rfl
@[simp] theorem setCachePage_stopRequested (v : Byte) : (setCachePage v s).stopRequested = s.stopRequested := rfl
@[simp] theorem setCachePage_draws (v : Byte) : (setCachePage v s).draws = s.draws := rfl
@[simp] theorem setCachePage_trace (v : Byte) : (setCachePage v s).trace = s.trace := rfl
@[simp] theorem setCachePage_ended (v : Byte) : (setCachePage v s).ended = s.ended := rfl

@[simp] theorem setRomPage_acc (v : Byte) : (setRomPage v s).acc = s.acc := rfl
@[simp] theorem setRomPage_bacc (v : Byte) : (setRomPage v s).bacc = s.bacc := rfl
@[simp] theorem setRomPage_pc (v : Byte) : (setRomPage v s).pc = s.pc := rfl
@[simp] theorem setRomPage_accStackPointer (v : Byte) : (setRomPage v s).accStackPointer = s.accStackPointer := rfl
@[simp] theorem setRomPage_adrStackPointer (v : Byte) : (setRomPage v s).adrStackPointer = s.adrStackPointer := rfl
@[simp] theorem setRomPage_carryFlag (v : Byte) : (setRomPage v s).carryFlag = s.carryFlag := rfl
@[simp] theorem setRomPage_cachePage (v : Byte) : (setRomPage v s).cachePage = s.cachePage := rfl
@[simp] theorem setRomPage_romPage (v : Byte) : (setRomPage v s).romPage = v := rfl
@[simp] theorem setRomPage_interruptRegister (v : Byte) : (setRomPage v s).interruptRegister = s.interruptRegister := rfl
@[simp] theorem setRomPage_programStore (v : Byte) : (setRomPage v s).programStore = s.programStore := rfl
@[simp] theorem setRomPage_dataBank (v : Byte) : (setRomPage v s).dataBank = s.dataBank := rfl
@[simp] theorem setRomPage_accStack (v : Byte) : (setRomPage v s).accStack = s.accStack := rfl
@[simp] theorem setRomPage_adrStack (v : Byte) : (setRomPage v s).adrStack = s.adrStack := rfl
@[simp] theorem setRomPage_ports (v : Byte) : (setRomPage v s).ports = s.ports := rfl
@[simp] theorem setRomPage_tickCounter (v : Byte) : (setRomPage v s).tickCounter = s.tickCounter := rfl
@[simp] theorem setRomPage_instructionCounter (v : Byte) : (setRomPage v s).instructionCounter = s.instructionCounter := rfl
@[simp] theorem setRomPage_extNames (v : Byte) : (setRomPage v s).extNames = s.extNames := rfl
@[simp] theorem setRomPage_registry (v : Byte) : (setRomPage v s).registry = s.registry := rfl
@[simp] theorem setRomPage_stopRequested (v : Byte) : (setRomPage v s).stopRequested = s.stopRequested := rfl
@[simp] theorem setRomPage_draws (v : Byte) : (setRomPage v s).draws = s.draws := rfl
@[simp] theorem setRomPage_trace (v : Byte) : (setRomPage v s).trace = s.trace := rfl
@[simp] theorem setRomPage_ended (v : Byte) : (setRomPage v s).ended = s.ended := rfl

@[simp] theorem writeCache_acc (a : Word16) (v : Byte) : (writeCache a v s).acc = s.acc := rfl
@[simp] theorem writeCache_bacc (a : Word16) (v : Byte) : (writeCache a v s).bacc = s.bacc := rfl
@[simp] theorem writeCache_pc (a : Word16) (v : Byte) : (writeCache a v s).pc = s.pc := rfl
@[simp] theorem writeCache_accStackPointer (a : Word16) (v : Byte) : (writeCache a v s).accStackPointer = s.accStackPointer := rfl
@[simp] theorem writeCache_adrStackPointer (a : Word16) (v : Byte) : (writeCache a v s).adrStackPointer = s.adrStackPointer := rfl
@[simp] theorem writeCache_carryFlag (a : Word16) (v : Byte) : (writeCache a v s).carryFlag = s.carryFlag := rfl
@[simp] theorem writeCache_cachePage (a : Word16) (v : Byte) : (writeCache a v s).cachePage = s.cachePage := rfl
@[simp] theorem writeCache_romPage (a : Word16) (v : Byte) : (writeCache a v s).romPage = s.romPage := rfl
@[simp] theorem writeCache_interruptRegister (a : Word16) (v : Byte) : (writeCache a v s).interruptRegister = s.interruptRegister := rfl
@[simp] theorem writeCache_programStore (a : Word16) (v : Byte) : (writeCache a v s).programStore = s.programStore := rfl
@[simp] theorem writeCache_dataBank (a : Word16) (v : Byte) : (writeCache a v s).dataBank = s.dataBank.write a.toNat v := rfl
@[simp] theorem writeCache_accStack (a : Word16) (v : Byte) : (writeCache a v s).accStack = s.accStack := rfl
@[simp] theorem writeCache_adrStack (a : Word16) (v : Byte) : (writeCache a v s).adrStack = s.adrStack := rfl
@[simp] theorem writeCache_ports (a : Word16) (v : Byte) : (writeCache a v s).ports = s.ports := rfl
@[simp] theorem writeCache_tickCounter (a : Word16) (v : Byte) : (writeCache a v s).tickCounter = s.tickCounter := rfl
@[simp] theorem writeCache_instructionCounter (a : Word16) (v : Byte) : (writeCache a v s).instructionCounter = s.instructionCounter := rfl
@[simp] theorem writeCache_extNames (a : Word16) (v : Byte) : (writeCache a v s).extNames = s.extNames := rfl
@[simp] theorem writeCache_registry (a : Word16) (v : Byte) : (writeCache a v s).registry = s.registry := rfl
@[simp] theorem writeCache_stopRequested (a : Word16) (v : Byte) : (writeCache a v s).stopRequested = s.stopRequested := rfl
@[simp] theorem writeCache_draws (a : Word16) (v : Byte) : (writeCache a v s).draws = s.draws := rfl
@[simp] theorem writeCache_trace (a : Word16) (v : Byte) : (writeCache a v s).trace = s.trace := rfl
@[simp] theorem writeCache_ended (a : Word16) (v : Byte) : (writeCache a v s).ended = s.ended := rfl

@[simp] theorem writePort_acc (a v : Byte) : (writePort a v s).acc = s.acc := rfl
@[simp] theorem writePort_bacc (a v : Byte) : (writePort a v s).bacc = s.bacc := rfl
@[simp] theorem writePort_pc (a v : Byte) : (writePort a v s).pc = s.pc := rfl
@[simp] theorem writePort_accStackPointer (a v : Byte) : (writePort a v s).accStackPointer = s.accStackPointer := rfl
@[simp] theorem writePort_adrStackPointer (a v : Byte) : (writePort a v s).adrStackPointer = s.adrStackPointer := rfl
@[simp] theorem writePort_carryFlag (a v : Byte) : (writePort a v s).carryFlag = s.carryFlag := rfl
@[simp] theorem writePort_cachePage (a v : Byte) : (writePort a v s).cachePage = s.cachePage := rfl
@[simp] theorem writePort_romPage (a v : Byte) : (writePort a v s).romPage = s.romPage := rfl
@[simp] theorem writePort_interruptRegister (a v : Byte) : (writePort a v s).interruptRegister = s.interruptRegister := rfl
@[simp] theorem writePort_programStore (a v : Byte) : (writePort a v s).programStore = s.programStore := rfl
@[simp] theorem writePort_dataBank (a v : Byte) : (writePort a v s).dataBank = s.dataBank := rfl
@[simp] theorem writePort_accStack (a v : Byte) : (writePort a v s).accStack = s.accStack := rfl
@[simp] theorem writePort_adrStack (a v : Byte) : (writePort a v s).adrStack = s.adrStack := rfl
@[simp] theorem writePort_ports (a v : Byte) : (writePort a v s).ports = s.ports.write a.toNat v := rfl
@[simp] theorem writePort_tickCounter (a v : Byte) : (writePort a v s).tickCounter = s.tickCounter := rfl
@[simp] theorem writePort_instructionCounter (a v : Byte) : (writePort a v s).instructionCounter = s.instructionCounter := rfl
@[simp] theorem writePort_extNames (a v : Byte) : (writePort a v s).extNames = s.extNames := rfl
@[simp] theorem writePort_registry (a v : Byte) : (writePort a v s).registry = s.registry := rfl
@[simp] theorem writePort_stopRequested (a v : Byte) : (writePort a v s).stopRequested = s.stopRequested := rfl
@[simp] theorem writePort_draws (a v : Byte) : (writePort a v s).draws = s.draws := rfl
@[simp] theorem writePort_trace (a v : Byte) : (writePort a v s).trace = s.trace := rfl
@[simp] theorem writePort_ended (a v : Byte) : (writePort a v s).ended = s.ended := rfl

@[simp] theorem pushAcc_acc (v : Byte) : (pushAcc v s).acc = s.acc := rfl
@[simp] theorem pushAcc_bacc (v : Byte) : (pushAcc v s).bacc = s.bacc := rfl
@[simp] theorem pushAcc_pc (v : Byte) : (pushAcc v s).pc = s.pc := rfl
@[simp] theorem pushAcc_accStackPointer (v : Byte) : (pushAcc v s).accStackPointer = s.accStackPointer + 1 := rfl
@[simp] theorem pushAcc_adrStackPointer (v : Byte) : (pushAcc v s).adrStackPointer = s.adrStackPointer := rfl
@[simp] theorem pushAcc_carryFlag (v : Byte) : (pushAcc v s).carryFlag = s.carryFlag := rfl
@[simp] theorem pushAcc_cachePage (v : Byte) : (pushAcc v s).cachePage = s.cachePage := rfl
@[simp] theorem pushAcc_romPage (v : Byte) : (pushAcc v s).romPage = s.romPage := rfl
@[simp] theorem pushAcc_interruptRegister (v : Byte) : (pushAcc v s).interruptRegister = s.interruptRegister := rfl
@[simp] theorem pushAcc_programStore (v : Byte) : (pushAcc v s).programStore = s.programStore := rfl
@[simp] theorem pushAcc_dataBank (v : Byte) : (pushAcc v s).dataBank = s.dataBank := rfl
@[simp] theorem pushAcc_accStack (v : Byte) : (pushAcc v s).accStack = s.accStack.write s.accStackPointer.toNat v := rfl
@[simp] theorem pushAcc_adrStack (v : Byte) : (pushAcc v s).adrStack = s.adrStack := rfl
@[simp] theorem pushAcc_ports (v : Byte) : (pushAcc v s).ports = s.ports := rfl
@[simp] theorem pushAcc_tickCounter (v : Byte) : (pushAcc v s).tickCounter = s.tickCounter := rfl
@[simp] theorem pushAcc_instructionCounter (v : Byte) : (pushAcc v s).instructionCounter = s.instructionCounter := rfl
@[simp] theorem pushAcc_extNames (v : Byte) : (pushAcc v s).extNames = s.extNames := rfl
@[simp] theorem pushAcc_registry (v : Byte) : (pushAcc v s).registry = s.registry := rfl
@[simp] theorem pushAcc_stopRequested (v : Byte) : (pushAcc v s).stopRequested = s.stopRequested := rfl
@[simp] theorem pushAcc_draws (v : Byte) : (pushAcc v s).draws = s.draws := rfl
@[simp] theorem pushAcc_trace (v : Byte) : (pushAcc v s).trace = s.trace := rfl
@[simp] theorem pushAcc_ended (v : Byte) : (pushAcc v s).ended = s.ended := rfl

@[simp] theorem dropAcc_acc : (dropAcc s).acc = s.acc := rfl
@[simp] theorem dropAcc_bacc : (dropAcc s).bacc = s.bacc := rfl
@[simp] theorem dropAcc_pc : (dropAcc s).pc = s.pc := rfl
@[simp] theorem dropAcc_accStackPointer : (dropAcc s).accStackPointer = s.accStackPointer - 1 := rfl
@[simp] theorem dropAcc_adrStackPointer : (dropAcc s).adrStackPointer = s.adrStackPointer := rfl
@[simp] theorem dropAcc_carryFlag : (dropAcc s).carryFlag = s.carryFlag := rfl
@[simp] theorem dropAcc_cachePage : (dropAcc s).cachePage = s.cachePage := rfl
@[simp] theorem dropAcc_romPage : (dropAcc s).romPage = s.romPage := rfl
@[simp] theorem dropAcc_interruptRegister : (dropAcc s).interruptRegister = s.interruptRegister := rfl
@[simp] theorem dropAcc_programStore : (dropAcc s).programStore = s.programStore := rfl
@[simp] theorem dropAcc_dataBank : (dropAcc s).dataBank = s.dataBank := rfl
@[simp] theorem dropAcc_accStack : (dropAcc s).accStack = s.accStack := rfl
@[simp] theorem dropAcc_adrStack : (dropAcc s).adrStack = s.adrStack := rfl
@[simp] theorem dropAcc_ports : (dropAcc s).ports = s.ports := rfl
@[simp] theorem dropAcc_tickCounter : (dropAcc s).tickCounter = s.tickCounter := rfl
@[simp] theorem dropAcc_instructionCounter : (dropAcc s).instructionCounter = s.instructionCounter := rfl
@[simp] theorem dropAcc_extNames : (dropAcc s).extNames = s.extNames := rfl
@[simp] theorem dropAcc_registry : (dropAcc s).registry = s.registry := rfl
@[simp] theorem dropAcc_stopRequested : (dropAcc s).stopRequested = s.stopRequested := rfl
@[simp] theorem dropAcc_draws : (dropAcc s).draws = s.draws := rfl
@[simp] theorem dropAcc_trace : (dropAcc s).trace = s.trace := rfl
@[simp] theorem dropAcc_ended : (dropAcc s).ended = s.ended := rfl

@[simp] theorem pushAdr_acc (v : Nat) : (pushAdr v s).acc = s.acc := rfl
@[simp] theorem pushAdr_bacc (v : Nat) : (pushAdr v s).bacc = s.bacc := rfl
@[simp] theorem pushAdr_pc (v : Nat) : (pushAdr v s).pc = s.pc := rfl
@[simp] theorem pushAdr_accStackPointer (v : Nat) : (pushAdr v s).accStackPointer = s.accStackPointer := rfl
@[simp] theorem pushAdr_adrStackPointer (v : Nat) : (pushAdr v s).adrStackPointer = s.adrStackPointer + 1 := rfl
@[simp] theorem pushAdr_carryFlag (v : Nat) : (pushAdr v s).carryFlag = s.carryFlag := rfl
@[simp] theorem pushAdr_cachePage (v : Nat) : (pushAdr v s).cachePage = s.cachePage := rfl
@[simp] theorem pushAdr_romPage (v : Nat) : (pushAdr v s).romPage = s.romPage := rfl
@[simp] theorem pushAdr_interruptRegister (v : Nat) : (pushAdr v s).interruptRegister = s.interruptRegister := rfl
@[simp] theorem pushAdr_programStore (v : Nat) : (pushAdr v s).programStore = s.programStore := rfl
@[simp] theorem pushAdr_dataBank (v : Nat) : (pushAdr v s).dataBank = s.dataBank := rfl
@[simp] theorem pushAdr_accStack (v : Nat) : (pushAdr v s).accStack = s.accStack := rfl
@[simp] theorem pushAdr_adrStack (v : Nat) : (pushAdr v s).adrStack = s.adrStack.write s.adrStackPointer.toNat (BitVec.ofNat Config.adrStackEntryBits v) := rfl
@[simp] theorem pushAdr_ports (v : Nat) : (pushAdr v s).ports = s.ports := rfl
@[simp] theorem pushAdr_tickCounter (v : Nat) : (pushAdr v s).tickCounter = s.tickCounter := rfl
@[simp] theorem pushAdr_instructionCounter (v : Nat) : (pushAdr v s).instructionCounter = s.instructionCounter := rfl
@[simp] theorem pushAdr_extNames (v : Nat) : (pushAdr v s).extNames = s.extNames := rfl
@[simp] theorem pushAdr_registry (v : Nat) : (pushAdr v s).registry = s.registry := rfl
@[simp] theorem pushAdr_stopRequested (v : Nat) : (pushAdr v s).stopRequested = s.stopRequested := rfl
@[simp] theorem pushAdr_draws (v : Nat) : (pushAdr v s).draws = s.draws := rfl
@[simp] theorem pushAdr_trace (v : Nat) : (pushAdr v s).trace = s.trace := rfl
@[simp] theorem pushAdr_ended (v : Nat) : (pushAdr v s).ended = s.ended := rfl

@[simp] theorem dropAdr_acc : (dropAdr s).acc = s.acc := rfl
@[simp] theorem dropAdr_bacc : (dropAdr s).bacc = s.bacc := rfl
@[simp] theorem dropAdr_pc : (dropAdr s).pc = s.pc := rfl
@[simp] theorem dropAdr_accStackPointer : (dropAdr s).accStackPointer = s.accStackPointer := rfl
@[simp] theorem dropAdr_adrStackPointer : (dropAdr s).adrStackPointer = s.adrStackPointer - 1 := rfl
@[simp] theorem dropAdr_carryFlag : (dropAdr s).carryFlag = s.carryFlag := rfl
@[simp] theorem dropAdr_cachePage : (dropAdr s).cachePage = s.cachePage := rfl
@[simp] theorem dropAdr_romPage : (dropAdr s).romPage = s.romPage := rfl
@[simp] theorem dropAdr_interruptRegister : (dropAdr s).interruptRegister = s.interruptRegister := rfl
@[simp] theorem dropAdr_programStore : (dropAdr s).programStore = s.programStore := rfl
@[simp] theorem dropAdr_dataBank : (dropAdr s).dataBank = s.dataBank := rfl
@[simp] theorem dropAdr_accStack : (dropAdr s).accStack = s.accStack := rfl
@[simp] theorem dropAdr_adrStack : (dropAdr s).adrStack = s.adrStack := rfl
@[simp] theorem dropAdr_ports : (dropAdr s).ports = s.ports := rfl
@[simp] theorem dropAdr_tickCounter : (dropAdr s).tickCounter = s.tickCounter := rfl
@[simp] theorem dropAdr_instructionCounter : (dropAdr s).instructionCounter = s.instructionCounter := rfl
@[simp] theorem dropAdr_extNames : (dropAdr s).extNames = s.extNames := rfl
@[simp] theorem dropAdr_registry : (dropAdr s).registry = s.registry := rfl
@[simp] theorem dropAdr_stopRequested : (dropAdr s).stopRequested = s.stopRequested := rfl
@[simp] theorem dropAdr_draws : (dropAdr s).draws = s.draws := rfl
@[simp] theorem dropAdr_trace : (dropAdr s).trace = s.trace := rfl
@[simp] theorem dropAdr_ended : (dropAdr s).ended = s.ended := rfl

@[simp] theorem jumpTo_acc (p : Nat) : (jumpTo p s).acc = s.acc := rfl
@[simp] theorem jumpTo_bacc (p : Nat) : (jumpTo p s).bacc = s.bacc := rfl
@[simp] theorem jumpTo_pc (p : Nat) : (jumpTo p s).pc = p := rfl
@[simp] theorem jumpTo_accStackPointer (p : Nat) : (jumpTo p s).accStackPointer = s.accStackPointer := rfl
@[simp] theorem jumpTo_adrStackPointer (p : Nat) : (jumpTo p s).adrStackPointer = s.adrStackPointer := rfl
@[simp] theorem jumpTo_carryFlag (p : Nat) : (jumpTo p s).carryFlag = s.carryFlag := rfl
@[simp] theorem jumpTo_cachePage (p : Nat) : (jumpTo p s).cachePage = s.cachePage := rfl
@[simp] theorem jumpTo_romPage (p : Nat) : (jumpTo p s).romPage = s.romPage := rfl
@[simp] theorem jumpTo_interruptRegister (p : Nat) : (jumpTo p s).interruptRegister = s.interruptRegister := rfl
@[simp] theorem jumpTo_programStore (p : Nat) : (jumpTo p s).programStore = s.programStore := rfl
@[simp] theorem jumpTo_dataBank (p : Nat) : (jumpTo p s).dataBank = s.dataBank := rfl
@[simp] theorem jumpTo_accStack (p : Nat) : (jumpTo p s).accStack = s.accStack := rfl
@[simp] theorem jumpTo_adrStack (p : Nat) : (jumpTo p s).adrStack = s.adrStack := rfl
@[simp] theorem jumpTo_ports (p : Nat) : (jumpTo p s).ports = s.ports := rfl
@[simp] theorem jumpTo_tickCounter (p : Nat) : (jumpTo p s).tickCounter = s.tickCounter := rfl
@[simp] theorem jumpTo_instructionCounter (p : Nat) : (jumpTo p s).instructionCounter = s.instructionCounter := rfl
@[simp] theorem jumpTo_extNames (p : Nat) : (jumpTo p s).extNames = s.extNames := rfl
@[simp] theorem jumpTo_registry (p : Nat) : (jumpTo p s).registry = s.registry := rfl
@[simp] theorem jumpTo_stopRequested (p : Nat) : (jumpTo p s).stopRequested = s.stopRequested := rfl
@[simp] theorem jumpTo_draws (p : Nat) : (jumpTo p s).draws = s.draws := rfl
@[simp] theorem jumpTo_trace (p : Nat) : (jumpTo p s).trace = s.trace := rfl
@[simp] theorem jumpTo_ended (p : Nat) : (jumpTo p s).ended = s.ended := rfl

@[simp] theorem advance_acc : (advance s).acc = s.acc := rfl
@[simp] theorem advance_bacc : (advance s).bacc = s.bacc := rfl
@[simp] theorem advance_pc : (advance s).pc = s.pc + 1 := rfl
@[simp] theorem advance_accStackPointer : (advance s).accStackPointer = s.accStackPointer := rfl
@[simp] theorem advance_adrStackPointer : (advance s).adrStackPointer = s.adrStackPointer := rfl
@[simp] theorem advance_carryFlag : (advance s).carryFlag = s.carryFlag := rfl
@[simp] theorem advance_cachePage : (advance s).cachePage = s.cachePage := rfl
@[simp] theorem advance_romPage : (advance s).romPage = s.romPage := rfl
@[simp] theorem advance_interruptRegister : (advance s).interruptRegister = s.interruptRegister := rfl
@[simp] theorem advance_programStore : (advance s).programStore = s.programStore := rfl
@[simp] theorem advance_dataBank : (advance s).dataBank = s.dataBank := rfl
@[simp] theorem advance_accStack : (advance s).accStack = s.accStack := rfl
@[simp] theorem advance_adrStack : (advance s).adrStack = s.adrStack := rfl
@[simp] theorem advance_ports : (advance s).ports = s.ports := rfl
@[simp] theorem advance_tickCounter : (advance s).tickCounter = s.tickCounter := rfl
@[simp] theorem advance_instructionCounter : (advance s).instructionCounter = s.instructionCounter := rfl
@[simp] theorem advance_extNames : (advance s).extNames = s.extNames := rfl
@[simp] theorem advance_registry : (advance s).registry = s.registry := rfl
@[simp] theorem advance_stopRequested : (advance s).stopRequested = s.stopRequested := rfl
@[simp] theorem advance_draws : (advance s).draws = s.draws := rfl
@[simp] theorem advance_trace : (advance s).trace = s.trace := rfl
@[simp] theorem advance_ended : (advance s).ended = s.ended := rfl

@[simp] theorem countInstr_acc (op : Opcode) (m : Bool) : (countInstr op m s).acc = s.acc := rfl
@[simp] theorem countInstr_bacc (op : Opcode) (m : Bool) : (countInstr op m s).bacc = s.bacc := rfl
@[simp] theorem countInstr_pc (op : Opcode) (m : Bool) : (countInstr op m s).pc = s.pc := rfl
@[simp] theorem countInstr_accStackPointer (op : Opcode) (m : Bool) : (countInstr op m s).accStackPointer = s.accStackPointer := rfl
@[simp] theorem countInstr_adrStackPointer (op : Opcode) (m : Bool) : (countInstr op m s).adrStackPointer = s.adrStackPointer := rfl
@[simp] theorem countInstr_carryFlag (op : Opcode) (m : Bool) : (countInstr op m s).carryFlag = s.carryFlag := rfl
@[simp] theorem countInstr_cachePage (op : Opcode) (m : Bool) : (countInstr op m s).cachePage = s.cachePage := rfl
@[simp] theorem countInstr_romPage (op : Opcode) (m : Bool) : (countInstr op m s).romPage = s.romPage := rfl
@[simp] theorem countInstr_interruptRegister (op : Opcode) (m : Bool) : (countInstr op m s).interruptRegister = s.interruptRegister := rfl
@[simp] theorem countInstr_programStore (op : Opcode) (m : Bool) : (countInstr op m s).programStore = s.programStore := rfl
@[simp] theorem countInstr_dataBank (op : Opcode) (m : Bool) : (countInstr op m s).dataBank = s.dataBank := rfl
@[simp] theorem countInstr_accStack (op : Opcode) (m : Bool) : (countInstr op m s).accStack = s.accStack := rfl
@[simp] theorem countInstr_adrStack (op : Opcode) (m : Bool) : (countInstr op m s).adrStack = s.adrStack := rfl
@[simp] theorem countInstr_ports (op : Opcode) (m : Bool) : (countInstr op m s).ports = s.ports := rfl
@[simp] theorem countInstr_tickCounter (op : Opcode) (m : Bool) : (countInstr op m s).tickCounter = s.tickCounter + tickCost op m := rfl
@[simp] theorem countInstr_instructionCounter (op : Opcode) (m : Bool) : (countInstr op m s).instructionCounter = s.instructionCounter + 1 := rfl
@[simp] theorem countInstr_extNames (op : Opcode) (m : Bool) : (countInstr op m s).extNames = s.extNames := rfl
@[simp] theorem countInstr_registry (op : Opcode) (m : Bool) : (countInstr op m s).registry = s.registry := rfl
@[simp] theorem countInstr_stopRequested (op : Opcode) (m : Bool) : (countInstr op m s).stopRequested = s.stopRequested := rfl
@[simp] theorem countInstr_draws (op : Opcode) (m : Bool) : (countInstr op m s).draws = s.draws := rfl
@[simp] theorem countInstr_trace (op : Opcode) (m : Bool) : (countInstr op m s).trace = s.trace := rfl
@[simp] theorem countInstr_ended (op : Opcode) (m : Bool) : (countInstr op m s).ended = s.ended := rfl

@[simp] theorem raise_acc (c : Fault) : (raise c s).acc = s.acc := rfl
@[simp] theorem raise_bacc (c : Fault) : (raise c s).bacc = s.bacc := rfl
@[simp] theorem raise_pc (c : Fault) : (raise c s).pc = s.pc := rfl
@[simp] theorem raise_accStackPointer (c : Fault) : (raise c s).accStackPointer = s.accStackPointer := rfl
@[simp] theorem raise_adrStackPointer (c : Fault) : (raise c s).adrStackPointer = s.adrStackPointer := rfl
@[simp] theorem raise_carryFlag (c : Fault) : (raise c s).carryFlag = s.carryFlag := rfl
@[simp] theorem raise_cachePage (c : Fault) : (raise c s).cachePage = s.cachePage := rfl
@[simp] theorem raise_romPage (c : Fault) : (raise c s).romPage = s.romPage := rfl
@[simp] theorem raise_interruptRegister (c : Fault) : (raise c s).interruptRegister = markCondition c s.interruptRegister := rfl
@[simp] theorem raise_programStore (c : Fault) : (raise c s).programStore = s.programStore := rfl
@[simp] theorem raise_dataBank (c : Fault) : (raise c s).dataBank = s.dataBank := rfl
@[simp] theorem raise_accStack (c : Fault) : (raise c s).accStack = s.accStack := rfl
@[simp] theorem raise_adrStack (c : Fault) : (raise c s).adrStack = s.adrStack := rfl
@[simp] theorem raise_ports (c : Fault) : (raise c s).ports = s.ports := rfl
@[simp] theorem raise_tickCounter (c : Fault) : (raise c s).tickCounter = s.tickCounter := rfl
@[simp] theorem raise_instructionCounter (c : Fault) : (raise c s).instructionCounter = s.instructionCounter := rfl
@[simp] theorem raise_extNames (c : Fault) : (raise c s).extNames = s.extNames := rfl
@[simp] theorem raise_registry (c : Fault) : (raise c s).registry = s.registry := rfl
@[simp] theorem raise_stopRequested (c : Fault) : (raise c s).stopRequested = s.stopRequested := rfl
@[simp] theorem raise_draws (c : Fault) : (raise c s).draws = s.draws := rfl
@[simp] theorem raise_trace (c : Fault) : (raise c s).trace = s.trace := rfl
@[simp] theorem raise_ended (c : Fault) : (raise c s).ended = some c := rfl

@[simp] theorem emit_acc (e : HostEvent) : (emit e s).acc = s.acc := rfl
@[simp] theorem emit_bacc (e : HostEvent) : (emit e s).bacc = s.bacc := rfl
@[simp] theorem emit_pc (e : HostEvent) : (emit e s).pc = s.pc := rfl
@[simp] theorem emit_accStackPointer (e : HostEvent) : (emit e s).accStackPointer = s.accStackPointer := rfl
@[simp] theorem emit_adrStackPointer (e : HostEvent) : (emit e s).adrStackPointer = s.adrStackPointer := rfl
@[simp] theorem emit_carryFlag (e : HostEvent) : (emit e s).carryFlag = s.carryFlag := rfl
@[simp] theorem emit_cachePage (e : HostEvent) : (emit e s).cachePage = s.cachePage := rfl
@[simp] theorem emit_romPage (e : HostEvent) : (emit e s).romPage = s.romPage := rfl
@[simp] theorem emit_interruptRegister (e : HostEvent) : (emit e s).interruptRegister = s.interruptRegister := rfl
@[simp] theorem emit_programStore (e : HostEvent) : (emit e s).programStore = s.programStore := rfl
@[simp] theorem emit_dataBank (e : HostEvent) : (emit e s).dataBank = s.dataBank := rfl
@[simp] theorem emit_accStack (e : HostEvent) : (emit e s).accStack = s.accStack := rfl
@[simp] theorem emit_adrStack (e : HostEvent) : (emit e s).adrStack = s.adrStack := rfl
@[simp] theorem emit_ports (e : HostEvent) : (emit e s).ports = s.ports := rfl
@[simp] theorem emit_tickCounter (e : HostEvent) : (emit e s).tickCounter = s.tickCounter := rfl
@[simp] theorem emit_instructionCounter (e : HostEvent) : (emit e s).instructionCounter = s.instructionCounter := rfl
@[simp] theorem emit_extNames (e : HostEvent) : (emit e s).extNames = s.extNames := rfl
@[simp] theorem emit_registry (e : HostEvent) : (emit e s).registry = s.registry := rfl
@[simp] theorem emit_stopRequested (e : HostEvent) : (emit e s).stopRequested = s.stopRequested := rfl
@[simp] theorem emit_draws (e : HostEvent) : (emit e s).draws = s.draws := rfl
@[simp] theorem emit_trace (e : HostEvent) : (emit e s).trace = s.trace ++ [e] := rfl
@[simp] theorem emit_ended (e : HostEvent) : (emit e s).ended = s.ended := rfl

@[simp] theorem countDraw_acc : (countDraw s).acc = s.acc := rfl
@[simp] theorem countDraw_bacc : (countDraw s).bacc = s.bacc := rfl
@[simp] theorem countDraw_pc : (countDraw s).pc = s.pc := rfl
@[simp] theorem countDraw_accStackPointer : (countDraw s).accStackPointer = s.accStackPointer := rfl
@[simp] theorem countDraw_adrStackPointer : (countDraw s).adrStackPointer = s.adrStackPointer := rfl
@[simp] theorem countDraw_carryFlag : (countDraw s).carryFlag = s.carryFlag := rfl
@[simp] theorem countDraw_cachePage : (countDraw s).cachePage = s.cachePage := rfl
@[simp] theorem countDraw_romPage : (countDraw s).romPage = s.romPage := rfl
@[simp] theorem countDraw_interruptRegister : (countDraw s).interruptRegister = s.interruptRegister := rfl
@[simp] theorem countDraw_programStore : (countDraw s).programStore = s.programStore := rfl
@[simp] theorem countDraw_dataBank : (countDraw s).dataBank = s.dataBank := rfl
@[simp] theorem countDraw_accStack : (countDraw s).accStack = s.accStack := rfl
@[simp] theorem countDraw_adrStack : (countDraw s).adrStack = s.adrStack := rfl
@[simp] theorem countDraw_ports : (countDraw s).ports = s.ports := rfl
@[simp] theorem countDraw_tickCounter : (countDraw s).tickCounter = s.tickCounter := rfl
@[simp] theorem countDraw_instructionCounter : (countDraw s).instructionCounter = s.instructionCounter := rfl
@[simp] theorem countDraw_extNames : (countDraw s).extNames = s.extNames := rfl
@[simp] theorem countDraw_registry : (countDraw s).registry = s.registry := rfl
@[simp] theorem countDraw_stopRequested : (countDraw s).stopRequested = s.stopRequested := rfl
@[simp] theorem countDraw_draws : (countDraw s).draws = s.draws + 1 := rfl
@[simp] theorem countDraw_trace : (countDraw s).trace = s.trace := rfl
@[simp] theorem countDraw_ended : (countDraw s).ended = s.ended := rfl

@[simp] theorem pollHost_acc (asked : Bool) : (pollHost asked s).acc = s.acc := rfl
@[simp] theorem pollHost_bacc (asked : Bool) : (pollHost asked s).bacc = s.bacc := rfl
@[simp] theorem pollHost_pc (asked : Bool) : (pollHost asked s).pc = s.pc := rfl
@[simp] theorem pollHost_accStackPointer (asked : Bool) : (pollHost asked s).accStackPointer = s.accStackPointer := rfl
@[simp] theorem pollHost_adrStackPointer (asked : Bool) : (pollHost asked s).adrStackPointer = s.adrStackPointer := rfl
@[simp] theorem pollHost_carryFlag (asked : Bool) : (pollHost asked s).carryFlag = s.carryFlag := rfl
@[simp] theorem pollHost_cachePage (asked : Bool) : (pollHost asked s).cachePage = s.cachePage := rfl
@[simp] theorem pollHost_romPage (asked : Bool) : (pollHost asked s).romPage = s.romPage := rfl
@[simp] theorem pollHost_interruptRegister (asked : Bool) : (pollHost asked s).interruptRegister = s.interruptRegister := rfl
@[simp] theorem pollHost_programStore (asked : Bool) : (pollHost asked s).programStore = s.programStore := rfl
@[simp] theorem pollHost_dataBank (asked : Bool) : (pollHost asked s).dataBank = s.dataBank := rfl
@[simp] theorem pollHost_accStack (asked : Bool) : (pollHost asked s).accStack = s.accStack := rfl
@[simp] theorem pollHost_adrStack (asked : Bool) : (pollHost asked s).adrStack = s.adrStack := rfl
@[simp] theorem pollHost_ports (asked : Bool) : (pollHost asked s).ports = s.ports := rfl
@[simp] theorem pollHost_tickCounter (asked : Bool) : (pollHost asked s).tickCounter = s.tickCounter := rfl
@[simp] theorem pollHost_instructionCounter (asked : Bool) : (pollHost asked s).instructionCounter = s.instructionCounter := rfl
@[simp] theorem pollHost_extNames (asked : Bool) : (pollHost asked s).extNames = s.extNames := rfl
@[simp] theorem pollHost_registry (asked : Bool) : (pollHost asked s).registry = s.registry := rfl
@[simp] theorem pollHost_stopRequested (asked : Bool) : (pollHost asked s).stopRequested = (s.stopRequested || asked) := rfl
@[simp] theorem pollHost_draws (asked : Bool) : (pollHost asked s).draws = s.draws := rfl
@[simp] theorem pollHost_trace (asked : Bool) : (pollHost asked s).trace = s.trace := rfl
@[simp] theorem pollHost_ended (asked : Bool) : (pollHost asked s).ended = s.ended := rfl

@[simp] theorem clearStopRequest_acc : (clearStopRequest s).acc = s.acc := rfl
@[simp] theorem clearStopRequest_bacc : (clearStopRequest s).bacc = s.bacc := rfl
@[simp] theorem clearStopRequest_pc : (clearStopRequest s).pc = s.pc := rfl
@[simp] theorem clearStopRequest_accStackPointer : (clearStopRequest s).accStackPointer = s.accStackPointer := rfl
@[simp] theorem clearStopRequest_adrStackPointer : (clearStopRequest s).adrStackPointer = s.adrStackPointer := rfl
@[simp] theorem clearStopRequest_carryFlag : (clearStopRequest s).carryFlag = s.carryFlag := rfl
@[simp] theorem clearStopRequest_cachePage : (clearStopRequest s).cachePage = s.cachePage := rfl
@[simp] theorem clearStopRequest_romPage : (clearStopRequest s).romPage = s.romPage := rfl
@[simp] theorem clearStopRequest_interruptRegister : (clearStopRequest s).interruptRegister = s.interruptRegister := rfl
@[simp] theorem clearStopRequest_programStore : (clearStopRequest s).programStore = s.programStore := rfl
@[simp] theorem clearStopRequest_dataBank : (clearStopRequest s).dataBank = s.dataBank := rfl
@[simp] theorem clearStopRequest_accStack : (clearStopRequest s).accStack = s.accStack := rfl
@[simp] theorem clearStopRequest_adrStack : (clearStopRequest s).adrStack = s.adrStack := rfl
@[simp] theorem clearStopRequest_ports : (clearStopRequest s).ports = s.ports := rfl
@[simp] theorem clearStopRequest_tickCounter : (clearStopRequest s).tickCounter = s.tickCounter := rfl
@[simp] theorem clearStopRequest_instructionCounter : (clearStopRequest s).instructionCounter = s.instructionCounter := rfl
@[simp] theorem clearStopRequest_extNames : (clearStopRequest s).extNames = s.extNames := rfl
@[simp] theorem clearStopRequest_registry : (clearStopRequest s).registry = s.registry := rfl
@[simp] theorem clearStopRequest_stopRequested : (clearStopRequest s).stopRequested = false := rfl
@[simp] theorem clearStopRequest_draws : (clearStopRequest s).draws = s.draws := rfl
@[simp] theorem clearStopRequest_trace : (clearStopRequest s).trace = s.trace := rfl
@[simp] theorem clearStopRequest_ended : (clearStopRequest s).ended = s.ended := rfl

@[simp] theorem applyResponse_acc (r : Config.ExtResponse) : (applyResponse r s).acc = s.acc := rfl
@[simp] theorem applyResponse_bacc (r : Config.ExtResponse) : (applyResponse r s).bacc = s.bacc := rfl
@[simp] theorem applyResponse_pc (r : Config.ExtResponse) : (applyResponse r s).pc = s.pc := rfl
@[simp] theorem applyResponse_accStackPointer (r : Config.ExtResponse) : (applyResponse r s).accStackPointer = s.accStackPointer := rfl
@[simp] theorem applyResponse_adrStackPointer (r : Config.ExtResponse) : (applyResponse r s).adrStackPointer = s.adrStackPointer := rfl
@[simp] theorem applyResponse_carryFlag (r : Config.ExtResponse) : (applyResponse r s).carryFlag = s.carryFlag := rfl
@[simp] theorem applyResponse_cachePage (r : Config.ExtResponse) : (applyResponse r s).cachePage = s.cachePage := rfl
@[simp] theorem applyResponse_romPage (r : Config.ExtResponse) : (applyResponse r s).romPage = s.romPage := rfl
@[simp] theorem applyResponse_interruptRegister (r : Config.ExtResponse) : (applyResponse r s).interruptRegister = InterruptRegister.ofBits r.interruptRegister := rfl
@[simp] theorem applyResponse_programStore (r : Config.ExtResponse) : (applyResponse r s).programStore = s.programStore := rfl
@[simp] theorem applyResponse_dataBank (r : Config.ExtResponse) : (applyResponse r s).dataBank = s.dataBank.writeAll r.dataBankWrites := rfl
@[simp] theorem applyResponse_accStack (r : Config.ExtResponse) : (applyResponse r s).accStack = s.accStack := rfl
@[simp] theorem applyResponse_adrStack (r : Config.ExtResponse) : (applyResponse r s).adrStack = s.adrStack := rfl
@[simp] theorem applyResponse_ports (r : Config.ExtResponse) : (applyResponse r s).ports = s.ports.writeAll r.portWrites := rfl
@[simp] theorem applyResponse_tickCounter (r : Config.ExtResponse) : (applyResponse r s).tickCounter = s.tickCounter := rfl
@[simp] theorem applyResponse_instructionCounter (r : Config.ExtResponse) : (applyResponse r s).instructionCounter = s.instructionCounter := rfl
@[simp] theorem applyResponse_extNames (r : Config.ExtResponse) : (applyResponse r s).extNames = s.extNames := rfl
@[simp] theorem applyResponse_registry (r : Config.ExtResponse) : (applyResponse r s).registry = s.registry := rfl
@[simp] theorem applyResponse_stopRequested (r : Config.ExtResponse) : (applyResponse r s).stopRequested = s.stopRequested := rfl
@[simp] theorem applyResponse_draws (r : Config.ExtResponse) : (applyResponse r s).draws = s.draws := rfl
@[simp] theorem applyResponse_trace (r : Config.ExtResponse) : (applyResponse r s).trace = s.trace := rfl
@[simp] theorem applyResponse_ended (r : Config.ExtResponse) : (applyResponse r s).ended = s.ended := rfl

@[simp] theorem storeFetchWord_acc (w : Word16) : (storeFetchWord w s).acc = s.acc := rfl
@[simp] theorem storeFetchWord_bacc (w : Word16) : (storeFetchWord w s).bacc = s.bacc := rfl
@[simp] theorem storeFetchWord_pc (w : Word16) : (storeFetchWord w s).pc = s.pc := rfl
@[simp] theorem storeFetchWord_accStackPointer (w : Word16) : (storeFetchWord w s).accStackPointer = s.accStackPointer := rfl
@[simp] theorem storeFetchWord_adrStackPointer (w : Word16) : (storeFetchWord w s).adrStackPointer = s.adrStackPointer := rfl
@[simp] theorem storeFetchWord_carryFlag (w : Word16) : (storeFetchWord w s).carryFlag = s.carryFlag := rfl
@[simp] theorem storeFetchWord_cachePage (w : Word16) : (storeFetchWord w s).cachePage = s.cachePage := rfl
@[simp] theorem storeFetchWord_romPage (w : Word16) : (storeFetchWord w s).romPage = s.romPage := rfl
@[simp] theorem storeFetchWord_interruptRegister (w : Word16) : (storeFetchWord w s).interruptRegister = s.interruptRegister := rfl
@[simp] theorem storeFetchWord_programStore (w : Word16) : (storeFetchWord w s).programStore = (s.programStore.write (2 * s.pc) (lowByte w)).write (2 * s.pc + 1) (highByte w) := rfl
@[simp] theorem storeFetchWord_dataBank (w : Word16) : (storeFetchWord w s).dataBank = s.dataBank := rfl
@[simp] theorem storeFetchWord_accStack (w : Word16) : (storeFetchWord w s).accStack = s.accStack := rfl
@[simp] theorem storeFetchWord_adrStack (w : Word16) : (storeFetchWord w s).adrStack = s.adrStack := rfl
@[simp] theorem storeFetchWord_ports (w : Word16) : (storeFetchWord w s).ports = s.ports := rfl
@[simp] theorem storeFetchWord_tickCounter (w : Word16) : (storeFetchWord w s).tickCounter = s.tickCounter := rfl
@[simp] theorem storeFetchWord_instructionCounter (w : Word16) : (storeFetchWord w s).instructionCounter = s.instructionCounter := rfl
@[simp] theorem storeFetchWord_extNames (w : Word16) : (storeFetchWord w s).extNames = s.extNames := rfl
@[simp] theorem storeFetchWord_registry (w : Word16) : (storeFetchWord w s).registry = s.registry := rfl
@[simp] theorem storeFetchWord_stopRequested (w : Word16) : (storeFetchWord w s).stopRequested = s.stopRequested := rfl
@[simp] theorem storeFetchWord_draws (w : Word16) : (storeFetchWord w s).draws = s.draws := rfl
@[simp] theorem storeFetchWord_trace (w : Word16) : (storeFetchWord w s).trace = s.trace := rfl
@[simp] theorem storeFetchWord_ended (w : Word16) : (storeFetchWord w s).ended = s.ended := rfl

end Sys2Proof.Machine
end

