-- ==== Sys2Proof/Laws/Ops.lean ====
section
/-! SUPPORT. What each shared operation can do, said once. -/

namespace Sys2Proof.Machine

/-- A handler's end is a next state with the counters advanced. -/
theorem retire_eq (i : Instr) (s : State) : retire i s = .next (countInstr i.opcode i.memFlag s) := rfl

/-- A conditional jump is a jump to one of two places. -/
theorem jumpIf_eq (c : Bool) (b : Byte) (s : State) :
    jumpIf c b s = jumpTo (if c then eaRom s b else s.pc + 1) s := by
  cases c <;> rfl

/-- `EA_c` as a number. -/
theorem eaCache_toNat (s : State) (x : Byte) : (eaCache s x).toNat = 256 * s.cachePage.toNat + x.toNat := by
  have h := wordOfBytes_toNat x s.cachePage
  exact h

/-- `EA_r` as a number. -/
theorem eaRom_eq (s : State) (x : Byte) : eaRom s x = 256 * s.romPage.toNat + x.toNat := by
  have h := wordOfBytes_toNat x s.romPage
  exact h

theorem eaRom_lt (s : State) (x : Byte) : eaRom s x < 65536 := (s.romPage ++ x : Word16).isLt

theorem topAdr_lt (s : State) : topAdr s < 2 ^ Config.adrStackEntryBits :=
  (s.adrStack.read s.adrStackPointer.toNat).isLt

/-- A pop right after a push of the accumulator stack gives back the value. -/
theorem topAcc_dropAcc_pushAcc (v : Byte) (s : State) : topAcc (dropAcc (pushAcc v s)) = v := by
  simp [topAcc]

/-- A pop right after a push of the address stack gives back the low bits of the value. -/
theorem topAdr_dropAdr_pushAdr (v : Nat) (s : State) :
    topAdr (dropAdr (pushAdr v s)) = v % 2 ^ Config.adrStackEntryBits := by
  simp [topAdr]

/-- A read of the data bank after a store to it. -/
theorem readCache_writeCache (a b : Word16) (v : Byte) (s : State) :
    readCache (writeCache a v s) b = if b = a then v else readCache s b := by
  simp only [readCache, writeCache_dataBank, Memory.read_write]
  by_cases h : b = a
  · simp [h]
  · simp [h, BitVec.toNat_inj]

/-- A port read after a port write. -/
theorem readPort_writePort (a b : Byte) (v : Byte) (s : State) :
    readPort (writePort a v s) b = if b = a then v else readPort s b := by
  simp only [readPort, writePort_ports, Memory.read_write]
  by_cases h : b = a
  · simp [h]
  · simp [h, BitVec.toNat_inj]

/-- The word of the test interface is the word the next fetch reads. -/
@[simp] theorem fetchWord_storeFetchWord (w : Word16) (s : State) : fetchWord (storeFetchWord w s) = w := by
  have h : (2 * s.pc : Nat) ≠ 2 * s.pc + 1 := by omega
  simp [fetchWord, Memory.read_write_other _ _ h]

/-- The bus value of an instruction that is not the store opcode with `M = 1` (40_decoder.md R94). -/
theorem busValue_eq (i : Instr) (s : State) :
    busValue i s = if i.memFlag && !isStore i then readCache s (eaCache s i.data) else i.data := rfl

theorem InterruptRegister.ofBits_toBits (r : InterruptRegister) : InterruptRegister.ofBits r.toBits = r := by
  obtain ⟨h, p, i, v⟩ := r
  revert h p i v
  decide

theorem InterruptRegister.toBits_ofBits (v : BitVec 5) : (InterruptRegister.ofBits v).toBits = v := by
  revert v
  decide

/-- A bit is set exactly when the number is not 0. -/
theorem InterruptRegister.isSet_ofBits (v : BitVec 5) : (InterruptRegister.ofBits v).isSet = decide (v ≠ 0) := by
  revert v
  decide

/-- Nothing stands in the way of a step exactly when no bit is set, no stop is requested and `pc` is in range. -/
theorem runGuard_eq_none (s : State) : runGuard s = none ↔
    s.interruptRegister.isSet = false ∧ s.stopRequested = false ∧ pcInRange s = true := by
  unfold runGuard
  cases s.interruptRegister.isSet <;> cases s.stopRequested <;> cases pcInRange s <;> simp

/-- A step is the execution of the decoded word, or the stop the guard gives. -/
theorem step_eq (s : State) :
    step s = match runGuard s with | some f => .fault f | none => exec (decodeWord (fetchWord s)) s := rfl

/-- The only way a step answers a next state. -/
theorem step_next {s t : State} (h : step s = .next t) :
    s.interruptRegister.isSet = false ∧ s.stopRequested = false ∧ pcInRange s = true ∧
      exec (decodeWord (fetchWord s)) s = .next t := by
  rw [step_eq] at h
  cases hg : runGuard s with
  | some f => simp [hg] at h
  | none =>
    obtain ⟨h1, h2, h3⟩ := (runGuard_eq_none s).1 hg
    exact ⟨h1, h2, h3, by simpa [hg] using h⟩

/-- What a whole dispatch can change: the ports, the data bank, the interrupt register, the draw index and the trace. -/
def HostFrame (s t : State) : Prop :=
  t = { s with
    ports := t.ports
    dataBank := t.dataBank
    interruptRegister := t.interruptRegister
    draws := t.draws
    trace := t.trace }

theorem HostFrame.trans {s t u : State} (h : HostFrame s t) (h' : HostFrame t u) : HostFrame s u := by
  unfold HostFrame at *
  rw [h', h]

theorem dispatchOne_frame (s : State) (name : ExtName) : HostFrame s (dispatchOne s name) := by
  unfold dispatchOne
  split <;> rfl

/-- The dispatcher changes nothing else. -/
theorem dispatchExtensions_frame (s : State) : HostFrame s (dispatchExtensions s) := by
  have key : ∀ (names : List ExtName) (s : State), HostFrame s (names.foldl dispatchOne s) := by
    intro names
    induction names with
    | nil => intro s; rfl
    | cons n ns ih => intro s; exact (dispatchOne_frame s n).trans (ih _)
  exact key _ _

/-- A name that is not registered only gives a warning. -/
theorem dispatchOne_unregistered {s : State} {name : ExtName} (h : name ∉ s.registry) :
    dispatchOne s name = emit (.extensionMissing name) s := by
  have : s.registry.contains name = false := by simpa using h
  simp [dispatchOne, h]

/-- When no declared name is registered the dispatcher only warns. -/
theorem dispatchExtensions_unregistered {s : State} (h : ∀ n ∈ s.extNames, n ∉ s.registry) :
    dispatchExtensions s = { s with trace := s.trace ++ s.extNames.map HostEvent.extensionMissing } := by
  have key : ∀ (names : List ExtName) (s : State), (∀ n ∈ names, n ∉ s.registry) →
      names.foldl dispatchOne s = { s with trace := s.trace ++ names.map HostEvent.extensionMissing } := by
    intro names
    induction names with
    | nil => intro s _; simp
    | cons n ns ih =>
      intro s hn
      have h1 : n ∉ s.registry := hn n (by simp)
      rw [List.foldl_cons, dispatchOne_unregistered h1, ih _ (fun k hk => by simpa using hn k (by simp [hk]))]
      simp [emit]
  exact key _ _ h

/-- The dispatcher keeps the canonical form of the two memories it hands out. -/
theorem dispatchExtensions_wf {s : State} (hp : s.ports.wf Config.portBytes = true)
    (hc : s.dataBank.wf Config.cacheBytes = true) :
    (dispatchExtensions s).ports.wf Config.portBytes = true ∧
      (dispatchExtensions s).dataBank.wf Config.cacheBytes = true := by
  have key : ∀ (names : List ExtName) (s : State), s.ports.wf Config.portBytes = true →
      s.dataBank.wf Config.cacheBytes = true →
      (names.foldl dispatchOne s).ports.wf Config.portBytes = true ∧
        (names.foldl dispatchOne s).dataBank.wf Config.cacheBytes = true := by
    intro names
    induction names with
    | nil => intro s h1 h2; exact ⟨h1, h2⟩
    | cons n ns ih =>
      intro s h1 h2
      rw [List.foldl_cons]
      by_cases hn : s.registry.contains n
      · have : dispatchOne s n =
            countDraw (applyResponse (Config.extProcess s.draws (extRequest n s)) s) := by
          unfold dispatchOne; rw [if_pos hn]
        rw [this]
        apply ih
        · simpa using Memory.wf_writeAll h1 (by decide) _
        · simpa using Memory.wf_writeAll h2 (by decide) _
      · have : dispatchOne s n = emit (.extensionMissing n) s := by
          unfold dispatchOne; rw [if_neg hn]
        rw [this]
        exact ih _ (by simpa using h1) (by simpa using h2)
  exact key _ _ hp hc

/-- Under the decided policy a zero divisor raises `DivideByZero` (60_exceptions.md R205). -/
@[simp] theorem zeroDivisor_eq (op : Opcode) (s : State) : zeroDivisor op s = raise .divideByZero s := rfl

/-- Every unmapped opcode executes the one illegal-instruction handler (44_io_system.md R188). -/
theorem exec_unmapped {i : Instr} (h : i.mnemonic = none) (s : State) :
    exec i s = retire i (raise .illegalInstruction s) := by
  cases i <;> first | rfl | (exact absurd h (by simp [Instr.mnemonic]))

end Sys2Proof.Machine
end

