-- ==== Sys2Proof/Laws/Run.lean ====
section
/-! SUPPORT. What one turn of the run loop and the loader's copy can do. -/

namespace Sys2Proof.Machine

theorem executeWhole_nil (s : State) : executeWhole [] s = .running s := rfl

/-- A turn of the run loop that takes a step. -/
theorem executeWhole_cons_next {asked : Bool} {s t : State} (h : step (pollHost asked s) = .next t) (polls : List Bool) :
    executeWhole (asked :: polls) s = executeWhole polls t := by
  simp [executeWhole, h]

/-- A turn of the run loop that ends the run. -/
theorem executeWhole_cons_fault {asked : Bool} {s : State} {f : Fault} (h : step (pollHost asked s) = .fault f)
    (polls : List Bool) : executeWhole (asked :: polls) s = .stopped f (clearStopRequest s) := by
  simp [executeWhole, h]

/-- A poll without a request leaves the state. -/
@[simp] theorem pollHost_false (s : State) : pollHost false s = s := by
  simp [pollHost]

/-- Dropping a request that is not there leaves the state. -/
theorem clearStopRequest_of_not {s : State} (h : s.stopRequested = false) : clearStopRequest s = s := by
  simp [clearStopRequest, ← h]

/-- The step after a poll with a request ends the run, when no bit of the interrupt register is set. -/
theorem step_pollHost_true {s : State} (h : s.interruptRegister.isSet = false) :
    step (pollHost true s) = .fault .hostStop := by
  simp [step, runGuard, h]

/-- At most the program store's size is copied. -/
theorem loadedCode_length_le (c : Container) : (loadedCode c).length ≤ Config.romBytes := by
  rw [loadedCode, List.length_take]
  exact le_trans (min_le_left _ _) (min_le_right _ _)

end Sys2Proof.Machine
end

