-- ==== Sys2Proof/Tests/Slice0.lean ====
section
/-! SUPPORT. Tests. Expected values are the spec's: the words of 30_encoding.md R71 and R75 and the examples and vectors of
spec/41 to spec/44 and spec/95. The last part shows, for each statement with hypotheses, a state that meets them. -/

namespace Sys2Proof.Tests

open Sys2Proof.Machine Sys2Proof.Safety

/-! ### Well-formedness: each check refuses an ill-formed term -/

theorem test_wf_raw_m : RawInstr.wf { m := 2, d := 0, opcode := 0 } = false := by decide
theorem test_wf_raw_d : RawInstr.wf { m := 1, d := 256, opcode := 0 } = false := by decide
theorem test_wf_raw_opcode : RawInstr.wf { m := 1, d := 255, opcode := 128 } = false := by decide
theorem test_wf_raw_ok : RawInstr.wf { m := 1, d := 255, opcode := 127 } = true := by decide
theorem test_wf_asm_operand : AsmLine.wf { mnemonic := .lra, dollar := false, operand := some 256 } = false := by decide
theorem test_wf_asm_ok : AsmLine.wf { mnemonic := .lra, dollar := true, operand := some 255 } = true := by decide

/-- The container of program P1 (spec/95), with an unknown tag. -/
def p1 : Container where
  tag := [118, 118, 118, 118]
  includeLength := 0
  assemblyLength := 6
  includeSection := []
  assemblySection := [0x81, 0x02, 0xAA, 0x01, 0x7F, 0x00]

theorem test_wf_container_ok : p1.wf = true := by decide
theorem test_wf_container_tag : Container.wf { p1 with tag := [118] } = false := by decide
theorem test_wf_container_include_range : Container.wf { p1 with includeLength := 65536 } = false := by decide
theorem test_wf_container_include : Container.wf { p1 with includeLength := 1 } = false := by decide
theorem test_wf_container_code : Container.wf { p1 with assemblyLength := 8 } = false := by decide
theorem test_wf_container_range : Container.wf { p1 with assemblyLength := 4294967296 } = false := by decide

/-! ### Decoding: a word of every row, written out from `M`, `d` and the row's opcode (R71, R75) -/

/-- Every listed word decodes to its instruction. -/
def decodesTo (rows : List (Nat × Instr)) : Bool :=
  rows.all (fun p => decodeTableWord 16 p.1 == some p.2)

theorem test_decode_control : decodesTo [
    (0x0280, .nop false 5), (0x9501, .lra true 42), (0x2782, .sra false 79), (0xBA03, .call true 116),
    (0x4C84, .ret false 153), (0xDF05, .jmp true 190), (0x7186, .jmpp false 227), (0x8407, .jmpz true 8),
    (0x1688, .jmpn false 45), (0xA909, .jmpc true 82), (0x3B8A, .ccf false 119), (0xCE0B, .lrp true 156),
    (0x608C, .ccp false 193), (0xF30D, .crp true 230), (0x058E, .push false 11), (0x980F, .pop true 48)] = true := by decide

theorem test_decode_logic : decodesTo [
    (0xB010, .and true 96), (0x4291, .or false 133), (0xD512, .xor true 170), (0x6793, .not false 207),
    (0xFA14, .lsc true 244), (0x0C95, .rsc false 25), (0x9F16, .cmp true 62), (0x3197, .cmpu false 99)] = true := by decide

theorem test_decode_arithmetic : decodesTo [
    (0x5DA0, .adc false 187), (0xF021, .sbc true 224), (0x02A2, .inc false 5), (0x9523, .dec true 42),
    (0x27A4, .abs false 79), (0xBA25, .mul true 116), (0x4CA6, .div false 153), (0xDF27, .mod true 190),
    (0x71A8, .tse false 227), (0x8429, .tce true 8), (0x16AA, .add false 45), (0xA92B, .sub true 82),
    (0x3BAC, .rpl false 119), (0xCE2D, .mulh true 156)] = true := by decide

theorem test_decode_system : decodesTo [
    (0x8B30, .ui true 22), (0x1DB1, .uo false 59), (0xB032, .uoc true 96), (0x42B3, .uocr false 133),
    (0xD570, .prw true 170), (0x67F1, .prr false 207), (0xFA7E, .int true 244), (0x0CFF, .halt false 25)] = true := by decide

theorem test_decode_unmapped_24_to_55 : decodesTo [
    (0x0298, .illegal24 false 5), (0x9519, .illegal25 true 42), (0x279A, .illegal26 false 79), (0xBA1B, .illegal27 true 116),
    (0x4C9C, .illegal28 false 153), (0xDF1D, .illegal29 true 190), (0x719E, .illegal30 false 227), (0x841F, .illegal31 true 8),
    (0x16AE, .illegal46 false 45), (0xA92F, .illegal47 true 82), (0x3BB4, .illegal52 false 119), (0xCE35, .illegal53 true 156),
    (0x60B6, .illegal54 false 193), (0xF337, .illegal55 true 230)] = true := by decide

theorem test_decode_unmapped_56_to_69 : decodesTo [
    (0x7FB8, .illegal56 false 255), (0x9239, .illegal57 true 36), (0x24BA, .illegal58 false 73), (0xB73B, .illegal59 true 110),
    (0x49BC, .illegal60 false 147), (0xDC3D, .illegal61 true 184), (0x6EBE, .illegal62 false 221), (0x813F, .illegal63 true 2),
    (0x13C0, .illegal64 false 39), (0xA641, .illegal65 true 76), (0x38C2, .illegal66 false 113), (0xCB43, .illegal67 true 150),
    (0x5DC4, .illegal68 false 187), (0xF045, .illegal69 true 224)] = true := by decide

theorem test_decode_unmapped_70_to_83 : decodesTo [
    (0x7CC6, .illegal70 false 249), (0x8F47, .illegal71 true 30), (0x21C8, .illegal72 false 67), (0xB449, .illegal73 true 104),
    (0x46CA, .illegal74 false 141), (0xD94B, .illegal75 true 178), (0x6BCC, .illegal76 false 215), (0xFE4D, .illegal77 true 252),
    (0x10CE, .illegal78 false 33), (0xA34F, .illegal79 true 70), (0x35D0, .illegal80 false 107), (0xC851, .illegal81 true 144),
    (0x5AD2, .illegal82 false 181), (0xED53, .illegal83 true 218)] = true := by decide

theorem test_decode_unmapped_84_to_97 : decodesTo [
    (0x79D4, .illegal84 false 243), (0x8C55, .illegal85 true 24), (0x1ED6, .illegal86 false 61), (0xB157, .illegal87 true 98),
    (0x43D8, .illegal88 false 135), (0xD659, .illegal89 true 172), (0x68DA, .illegal90 false 209), (0xFB5B, .illegal91 true 246),
    (0x0DDC, .illegal92 false 27), (0xA05D, .illegal93 true 64), (0x32DE, .illegal94 false 101), (0xC55F, .illegal95 true 138),
    (0x57E0, .illegal96 false 175), (0xEA61, .illegal97 true 212)] = true := by decide

theorem test_decode_unmapped_98_to_111 : decodesTo [
    (0x76E2, .illegal98 false 237), (0x8963, .illegal99 true 18), (0x1BE4, .illegal100 false 55), (0xAE65, .illegal101 true 92),
    (0x40E6, .illegal102 false 129), (0xD367, .illegal103 true 166), (0x65E8, .illegal104 false 203), (0xF869, .illegal105 true 240),
    (0x0AEA, .illegal106 false 21), (0x9D6B, .illegal107 true 58), (0x2FEC, .illegal108 false 95), (0xC26D, .illegal109 true 132),
    (0x54EE, .illegal110 false 169), (0xE76F, .illegal111 true 206)] = true := by decide

theorem test_decode_unmapped_114_to_125 : decodesTo [
    (0x73F2, .illegal114 false 231), (0x8673, .illegal115 true 12), (0x18F4, .illegal116 false 49), (0xAB75, .illegal117 true 86),
    (0x3DF6, .illegal118 false 123), (0xD077, .illegal119 true 160), (0x62F8, .illegal120 false 197), (0xF579, .illegal121 true 234),
    (0x07FA, .illegal122 false 15), (0x9A7B, .illegal123 true 52), (0x2CFC, .illegal124 false 89), (0xBF7D, .illegal125 true 126)] = true := by decide

/-- Words of spec/95 section 2.1 and of the encoding lines of spec/41 to spec/44. -/
theorem test_decode_spec_words : decodesTo [
    (0x0281, .lra false 5), (0x01AA, .add false 3), (0x007F, .halt false 0), (0x8081, .lra true 1),
    (0x8802, .sra true 16), (0xFFFF, .halt true 255), (0x0000, .nop false 0), (0x0034, .illegal52 false 0),
    (0x7F92, .xor false 255), (0x7F80, .nop false 255), (0x0505, .jmp false 10), (0x5510, .and false 0xAA),
    (0x082D, .mulh false 16), (0x03F1, .prr false 7), (0x007E, .int false 0), (0x818C, .ccp true 3)] = true := by decide

theorem test_encode_lra : encode (.lra true 1) = 0x8081 := by decide
theorem test_encode_prw : encode (.prw false 7) = 0x03F0 := by decide
theorem test_encode_bytes : encodeBytes (.add false 3) = [0xAA, 0x01] := by decide
theorem test_raw_enc : RawInstr.enc { m := 1, d := 16, opcode := 2 } = 0x8802 := by decide
theorem test_decode_truncated : decode [0x81] = .error (.truncated 1) := by decide
theorem test_assemble : AsmLine.assemble { mnemonic := .sra, dollar := true, operand := some 16 } = some 0x8802 := by decide
theorem test_assemble_no_operand : AsmLine.assemble { mnemonic := .ret, dollar := false, operand := none } = some 4 := by
  decide

/-! ### One step of each instruction -/

/-- The reset state with an accumulator and a carry flag. -/
def start (acc : Byte) (c : Bool) : State := { State.reset with acc := acc, carryFlag := c }

/-- The outcome is a next state that passes a check. -/
def nextIs (o : Host.Outcome State Fault Refusal) (check : State → Bool) : Bool :=
  match o with
  | .next t => check t
  | .fault _ => false
  | .refused _ => false

/-- Vectors `(acc, b, cin, acc', carry')` of an instruction with an immediate operand, as spec/95 lists them; `pc` advances
and the instruction is counted. -/
def vectors (i : Byte → Instr) (l : List (Byte × Byte × Bool × Byte × Bool)) : Bool :=
  l.all (fun v => nextIs (exec (i v.2.1) (start v.1 v.2.2.1)) (fun t =>
    t.acc == v.2.2.2.1 && t.carryFlag == v.2.2.2.2 && t.pc == 1 && t.instructionCounter == 1))

theorem test_and : vectors (.and false) [
    (0xCC, 0xAA, true, 0x88, true), (0xFF, 0, false, 0, false), (0x0F, 0xFF, false, 0x0F, false)] = true := by decide

theorem test_or : vectors (.or false) [
    (0xCC, 0xAA, false, 0xEE, false), (0, 0, true, 0, true)] = true := by decide

theorem test_xor : vectors (.xor false) [
    (0xCC, 0xAA, false, 0x66, false), (0x5A, 0x5A, true, 0, true), (0xCC, 0xFF, false, 0x33, false)] = true := by decide

theorem test_not : vectors (.not false) [
    (0xCC, 0, false, 0x33, false), (0, 0, true, 255, true), (255, 77, false, 0, false)] = true := by decide

theorem test_lsc : vectors (.lsc false) [
    (0x81, 1, false, 0x02, true), (0x81, 1, true, 0x03, true), (0x40, 1, true, 0x81, false), (0, 1, false, 0, false),
    (1, 7, false, 0x80, false), (3, 7, false, 0x80, true), (0x0F, 4, true, 0xF1, false), (1, 8, false, 0, true),
    (1, 8, true, 1, true), (0xFF, 0, false, 0xFF, false), (0xFE, 0, true, 0xFF, false), (0, 200, true, 1, false),
    (1, 255, false, 0, true)] = true := by decide

theorem test_rsc : vectors (.rsc false) [
    (0x81, 1, false, 0x40, true), (0x81, 1, true, 0xC0, true), (0x80, 1, false, 0x40, false), (0, 1, false, 0, false),
    (0x80, 7, false, 1, false), (0xF0, 4, false, 0x0F, false), (0xF8, 4, true, 0x8F, true), (0x80, 8, false, 0, true),
    (0x80, 8, true, 0x80, true), (0x7F, 0, false, 0x7F, false), (0x7F, 0, true, 0xFF, false), (0, 200, true, 0x80, false),
    (0xFF, 255, false, 0, true)] = true := by decide

theorem test_cmp : vectors (.cmp false) [
    (200, 5, false, 255, false), (5, 200, true, 1, true), (5, 5, false, 0, false), (200, 200, true, 0, true),
    (200, 201, false, 255, false), (127, 128, false, 1, false), (128, 127, false, 255, false), (0, 255, false, 1, false),
    (255, 0, false, 255, false), (6, 5, true, 1, true), (5, 6, false, 255, false), (128, 128, false, 0, false)] = true := by decide

theorem test_cmpu : vectors (.cmpu false) [
    (200, 5, false, 1, false), (5, 200, true, 255, true), (127, 128, false, 255, false), (128, 127, false, 1, false),
    (0, 255, false, 255, false), (255, 0, false, 1, false), (0, 0, true, 0, true)] = true := by decide

theorem test_adc : vectors (.adc false) [
    (255, 1, false, 0, true), (255, 0, true, 0, true), (128, 128, true, 1, true), (255, 255, true, 255, true),
    (0, 0, false, 0, false), (100, 27, true, 128, false)] = true := by decide

theorem test_sbc : vectors (.sbc false) [
    (0, 1, false, 255, true), (0, 0, true, 255, true), (5, 5, true, 255, true), (5, 5, false, 0, false),
    (200, 100, false, 100, false), (0, 255, true, 0, true)] = true := by decide

theorem test_add : vectors (.add false) [
    (255, 1, true, 0, true), (100, 27, false, 127, false), (200, 100, false, 44, true), (0, 0, true, 0, false)] = true := by decide

theorem test_sub : vectors (.sub false) [
    (0, 1, true, 255, true), (5, 5, true, 0, false), (5, 6, false, 255, true), (200, 100, true, 100, false)] = true := by decide

theorem test_inc : vectors (.inc false) [
    (255, 0, false, 0, true), (7, 9, true, 8, false), (127, 0, false, 128, false)] = true := by decide

theorem test_dec : vectors (.dec false) [
    (0, 0, false, 255, true), (1, 9, true, 0, false), (128, 0, false, 127, false)] = true := by decide

theorem test_abs : vectors (.abs false) [
    (128, 0, true, 128, true), (255, 0, false, 1, false), (129, 0, false, 127, false), (200, 0, true, 56, true),
    (127, 0, false, 127, false), (0, 0, false, 0, false)] = true := by decide

theorem test_mul : vectors (.mul false) [
    (16, 16, false, 0, false), (255, 255, false, 1, false), (15, 17, true, 255, true), (200, 2, false, 144, false),
    (0, 99, false, 0, false)] = true := by decide

theorem test_mulh : vectors (.mulh false) [
    (255, 255, false, 254, false), (16, 16, false, 1, false), (15, 17, false, 0, false), (200, 2, true, 1, true)] = true := by decide

theorem test_div : vectors (.div false) [
    (255, 2, false, 127, false), (7, 8, false, 0, false), (200, 200, true, 1, true), (255, 1, false, 255, false),
    (0, 5, false, 0, false)] = true := by decide

theorem test_mod : vectors (.mod false) [
    (255, 2, false, 1, false), (7, 8, false, 7, false), (200, 7, true, 4, true), (255, 1, false, 0, false)] = true := by decide

theorem test_tse : vectors (.tse false) [
    (0, 0, false, 128, false), (32, 0, true, 235, true), (50, 0, false, 255, false), (101, 0, false, 126, false),
    (151, 0, false, 0, false), (255, 0, false, 254, false)] = true := by decide

theorem test_tce : vectors (.tce false) [
    (0, 0, false, 255, false), (32, 0, true, 196, true), (50, 0, false, 129, false), (100, 0, false, 0, false),
    (201, 0, false, 255, false), (255, 0, false, 113, false)] = true := by decide

theorem test_rpl : vectors (.rpl false) [
    (77, 0, true, 255, true), (0, 1, false, 255, false), (0, 2, false, 127, false), (0, 3, false, 85, false),
    (0, 16, false, 15, false), (9, 128, false, 1, false), (0, 254, false, 1, false), (0, 255, false, 1, false)] = true := by decide

/-- Page 2 of the data bank holds 0xAB at 0x10 (the examples of spec/41). -/
def paged : State := { State.reset with cachePage := 2, dataBank := [(0x0210, 0xAB)], pc := 7 }

theorem test_nop : nextIs (exec (.nop true 3) paged) (fun t => t.pc == 8 && t.acc == 0) = true := by decide
theorem test_lra_immediate : nextIs (exec (.lra false 5) (start 9 true)) (fun t => t.acc == 5 && t.carryFlag) = true := by
  decide
theorem test_lra_paged : nextIs (exec (.lra true 16) paged) (fun t => t.acc == 0xAB && t.pc == 8) = true := by decide
/-- `SRA $16` with 5 in the cell stores, and does not dereference (spec/95 section 2.1). -/
theorem test_sra_paged : nextIs (exec (.sra true 16) { paged with acc := 0xCD })
    (fun t => t.dataBank == [(0x0210, 0xCD)] && t.acc == 0xCD) = true := by decide
theorem test_sra_zero : nextIs (exec (.sra false 16) paged) (fun t => t.dataBank == []) = true := by decide
theorem test_call : nextIs (exec (.call false 0x40) { State.reset with pc := 0x0120, romPage := 2, adrStackPointer := 255 })
    (fun t => t.pc == 0x0240 && t.adrStack == [(255, 0x0120)] && t.adrStackPointer == 0) = true := by decide
theorem test_ret : nextIs (exec (.ret false 9) { start 1 false with adrStackPointer := 1, pc := 7, romPage := 3 })
    (fun t => t.pc == 0 && t.acc == 9 && t.adrStackPointer == 0 && t.romPage == 3) = true := by decide
theorem test_ret_empty : nextIs (exec (.ret false 9) State.reset)
    (fun t => t.pc == 0 && t.acc == 9 && t.adrStackPointer == 255) = true := by decide
theorem test_jmp : nextIs (exec (.jmp false 255) { State.reset with romPage := 255 }) (fun t => t.pc == 65535) = true := by
  decide
theorem test_jmp_indirect : nextIs (exec (.jmp true 16) { paged with romPage := 1 }) (fun t => t.pc == 0x01AB) = true := by
  decide
theorem test_jmpp : nextIs (exec (.jmpp false 4) (start 200 false)) (fun t => t.pc == 4) = true := by decide
theorem test_jmpp_zero : nextIs (exec (.jmpp false 4) { start 0 true with pc := 9 }) (fun t => t.pc == 10) = true := by
  decide
theorem test_jmpz : nextIs (exec (.jmpz false 4) (start 0 false)) (fun t => t.pc == 4) = true := by decide
theorem test_jmpz_not : nextIs (exec (.jmpz false 4) { start 255 false with pc := 9 }) (fun t => t.pc == 10) = true := by
  decide
theorem test_jmpn : nextIs (exec (.jmpn false 4) (start 128 false)) (fun t => t.pc == 4) = true := by decide
theorem test_jmpn_not : nextIs (exec (.jmpn false 4) { start 127 false with pc := 9 }) (fun t => t.pc == 10) = true := by
  decide
theorem test_jmpc : nextIs (exec (.jmpc false 4) (start 0 true)) (fun t => t.pc == 4 && t.carryFlag) = true := by decide
theorem test_jmpc_not : nextIs (exec (.jmpc false 4) { start 1 false with pc := 9 }) (fun t => t.pc == 10) = true := by
  decide
theorem test_ccf : nextIs (exec (.ccf false 0) (start 3 true)) (fun t => !t.carryFlag && t.acc == 3) = true := by decide
theorem test_lrp : nextIs (exec (.lrp false 0) { paged with acc := 0x10 }) (fun t => t.acc == 0xAB) = true := by decide
/-- `CCP $3` reads through the old page (spec/95, S3). -/
theorem test_ccp_paged : nextIs (exec (.ccp true 3) { State.reset with cachePage := 1, dataBank := [(0x103, 7), (0x703, 9)] })
    (fun t => t.cachePage == 7) = true := by decide
theorem test_crp : nextIs (exec (.crp false 1) { State.reset with pc := 5 }) (fun t => t.romPage == 1 && t.pc == 6) = true := by
  decide
theorem test_push_wraps : nextIs (exec (.push false 0) { start 0xAB false with accStackPointer := 255 })
    (fun t => t.accStack == [(255, 0xAB)] && t.accStackPointer == 0 && t.acc == 0xAB) = true := by decide
theorem test_pop_wraps : nextIs (exec (.pop false 0) { State.reset with accStack := [(255, 0xAB)] })
    (fun t => t.acc == 0xAB && t.accStackPointer == 255 && t.accStack == [(255, 0xAB)]) = true := by decide
theorem test_div_zero : nextIs (exec (.div false 0) { start 7 true with pc := 1 }) (fun t =>
    t.acc == 7 && t.pc == 1 && t.carryFlag && t.interruptRegister.toBits == 4 && t.instructionCounter == 1 &&
      t.ended == some .divideByZero) = true := by decide
theorem test_mod_zero : nextIs (exec (.mod false 0) { start 7 true with pc := 1 }) (fun t =>
    t.acc == 7 && t.pc == 1 && t.carryFlag && t.interruptRegister.toBits == 4 && t.ended == some .divideByZero) = true := by
  decide
theorem test_ui : nextIs (exec (.ui false 0) State.reset) (fun t => t.pc == 1 && t.draws == 1) = true := by decide
theorem test_uo : nextIs (exec (.uo false 0) (start 6 false)) (fun t => t.trace == [.consoleOut .uo 6 0] && t.acc == 6) =
    true := by decide
theorem test_uoc : nextIs (exec (.uoc false 0) (start 65 false)) (fun t => t.trace == [.consoleOut .uoc 65 0]) = true := by
  decide
theorem test_uocr : nextIs (exec (.uocr false 65) (start 66 false)) (fun t => t.trace == [.consoleOut .uocr 66 65]) = true := by
  decide
/-- `PRW $7` writes port 7, the discarded cell notwithstanding (spec/95 section 2.1). -/
theorem test_prw : nextIs (exec (.prw true 7) { start 0x54 false with dataBank := [(7, 99)] })
    (fun t => t.ports == [(7, 0x54)] && t.dataBank == [(7, 99)]) = true := by decide
theorem test_prr : nextIs (exec (.prr true 7) { State.reset with ports := [(7, 0x54)], dataBank := [(7, 99)] })
    (fun t => t.acc == 0x54) = true := by decide
theorem test_int_fatal : nextIs (exec (.int false 0) { State.reset with pc := 1 }) (fun t =>
    t.pc == 1 && t.interruptRegister.toBits == 2 && t.instructionCounter == 1 && t.ended == some .interruptFatal) = true := by
  decide
theorem test_int_unregistered : nextIs (exec (.int false 0) { State.reset with pc := 1, extNames := [[120]] }) (fun t =>
    t.pc == 2 && t.interruptRegister.toBits == 0 && t.trace == [.extensionMissing [120]]) = true := by decide
theorem test_halt : nextIs (exec (.halt false 0) { State.reset with pc := 2 }) (fun t =>
    t.pc == 2 && t.interruptRegister.toBits == 1 && t.instructionCounter == 1 && t.ended == some .halt) = true := by decide
theorem test_illegal : nextIs (exec (.illegal52 false 0) { start 9 false with pc := 1 }) (fun t =>
    t.pc == 1 && t.acc == 9 && t.interruptRegister.toBits == 4 && t.instructionCounter == 1 &&
      t.ended == some .illegalInstruction) = true := by decide

/-! ### Steps, the loader, the tables -/

theorem test_step_lra : nextIs (step (State.reset.withFetchWord 16 0x0281)) (fun t => t.acc == 5 && t.pc == 1) = true := by
  decide
/-- The last word of the store is executed, and `pc` does not wrap (spec/95 section 2.2). -/
theorem test_step_last_word : nextIs (step { State.reset with pc := 65535 }) (fun t => t.pc == 65536) = true := by decide
/-- The fault a step answers, if it answers one. -/
def faultOf (o : Host.Outcome State Fault Refusal) : Option Fault :=
  match o with
  | .next _ => none
  | .fault f => some f
  | .refused _ => none

theorem test_step_overflow : faultOf (step { State.reset with pc := 65536 }) = some .programCounterOverflow := by decide
theorem test_step_stop : faultOf (step { State.reset with stopRequested := true }) = some .hostStop := by decide
/-- The `pc` a host stop leaves. -/
def stopPc (r : RunResult) : Option Nat :=
  match r with
  | .stopped .hostStop s => some s.pc
  | .running _ => none
  | .stopped _ _ => none
  | .rejected _ _ => none

/-- The host lets one step run and then stops the run (R207). -/
theorem test_run_stop : stopPc (executeWhole [false, true, false] State.reset) = some 1 := by decide
/-- A bit an extension set stops the run with no code of the core's (spec/93 U3). -/
theorem test_step_device_stop : faultOf (step { State.reset with
    interruptRegister := { State.reset.interruptRegister with reserved := 1 } }) = some .deviceStop := by decide
theorem test_step_halted : faultOf (step (raise .halt State.reset)) = some .halt := by decide

/-- The file of program P1 (spec/95). -/
def p1File : List Byte := [118, 118, 118, 118, 0, 0, 6, 0, 0, 0, 0x81, 0x02, 0xAA, 0x01, 0x7F, 0x00]

/-- The state a file loads to passes a check. -/
def loadsTo (file : List Byte) (check : State → Bool) : Bool :=
  match load [] file with
  | .ok s => check s
  | .error _ => false

/-- The error a file is rejected with. -/
def loadErrorOf (file : List Byte) : Option LoadError :=
  match load [] file with
  | .ok _ => none
  | .error e => some e

theorem test_load_p1 : loadsTo p1File (fun s => s.programStore ==
    [(0, 0x81), (1, 0x02), (2, 0xAA), (3, 0x01), (4, 0x7F)] && s.extNames == [] && s.pc == 0) = true := by decide
theorem test_load_names : loadsTo [118, 118, 118, 118, 5, 0, 0, 0, 0, 0, 97, 98, 10, 99, 10]
    (fun s => s.extNames == [[97, 98], [99]]) = true := by decide
theorem test_load_short_header : loadErrorOf [118, 118] = some .malformedHeader := by decide
theorem test_load_truncated_include : loadErrorOf [118, 118, 118, 118, 1, 0, 0, 0, 0, 0] = some .truncatedInclude := by decide
theorem test_load_bad_name : loadErrorOf [118, 118, 118, 118, 2, 0, 0, 0, 0, 0, 0x80, 10] = some .undecodableName := by decide
theorem test_load_truncated_code : loadErrorOf [118, 118, 118, 118, 0, 0, 2, 0, 0, 0, 0x81] = some .truncatedCode := by decide
theorem test_loader_mask : loaderCopyLength 131073 = 1 := by decide

/-- A file whose declared length, 131073, the mask shortens to 1. -/
def maskedFile : List Byte := [118, 118, 118, 118, 0, 0, 1, 0, 2, 0, 0x81, 0x02, 0xAA]

/-- One byte is copied (spec/93 U4), and writing the container again gives the file (R236). -/
theorem test_load_masked : loadsTo maskedFile (fun s => s.programStore == [(0, 0x81)]) = true := by decide
theorem test_masked_round_trip : (match parseContainer maskedFile with
    | .ok c => decide (serializeContainer c = maskedFile)
    | .error _ => false) = true := by decide

/-- The check values of 43_arithmetic.md R165 and R166. -/
theorem test_table_sums : ((sinTable.map (fun r => (r.map BitVec.toNat).sum)).sum = 37247) ∧
    ((cosTable.map (fun r => (r.map BitVec.toNat).sum)).sum = 36750) := by decide

/-! ### Witnesses: for each statement with hypotheses, a state and operands that meet them together -/

theorem witness_AssemblyLineDecodesToItsMnemonic :
    AsmLine.wf { mnemonic := .halt, dollar := true, operand := some 255 } = true ∧
    AsmLine.wf { mnemonic := .halt, dollar := true, operand := some 256 } = false := by decide

/-- `LRA 5` stored at word 0 of the reset state. -/
def lraStored : State := State.reset.withFetchWord 16 0x0281

theorem witness_StepRunsDecodedInstruction :
    decode [lraStored.programStore.read (2 * lraStored.pc), lraStored.programStore.read (2 * lraStored.pc + 1)] =
      .ok (.lra false 5, []) ∧
    lraStored.interruptRegister.isSet = false ∧ lraStored.stopRequested = false ∧ lraStored.pc < Config.romWords := by
  decide

theorem witness_SetInterruptRegisterHasNoStep_step : ∃ t, step State.reset = .next t := ⟨_, rfl⟩

theorem witness_SetInterruptRegisterHasNoStep_bits :
    (raise .halt State.reset).interruptRegister.halted = true ∧
    (raise .interruptFatal State.reset).interruptRegister.interruptPending = true ∧
    (raise .divideByZero State.reset).interruptRegister.illegalInstruction = true ∧
    (InterruptRegister.ofBits 8).reserved ≠ 0 := by decide

theorem witness_WordBeyondTheStoreIsNotFetched :
    State.reset.interruptRegister.isSet = false ∧ State.reset.stopRequested = false ∧
    Config.romBytes ≤ 2 * 65536 + 1 ∧ (65535 : Nat) = Config.romWords - 1 := by decide

theorem witness_HostStopChangesNothing :
    (State.reset.interruptRegister.isSet = false ∧ { State.reset with stopRequested := true }.stopRequested = true) ∧
    ∃ t, exec (.nop false 0) State.reset = .next t := ⟨by decide, _, rfl⟩

/-- The third clause of `HostStopChangesNothing`: a run of two steps that the host stops before the third. -/
theorem witness_HostStopChangesNothing_later : ∃ t, State.reset.stopRequested = false ∧
    executeWhole (List.replicate 2 false) State.reset = .running t ∧ t.interruptRegister.isSet = false ∧ t.pc = 2 :=
  ⟨_, rfl, rfl, by decide, by decide⟩

theorem witness_StepExistsExactlyWhenNotTerminal : State.reset.stopRequested = false := by decide

/-- The file of P1 loads: the hypothesis of `BootCopiesCodeFromByteZero` and `LoadedMachineMeetsTheInvariant`. -/
theorem witness_load : ∃ s, load [] p1File = .ok s := ⟨_, rfl⟩

theorem witness_BootCopiesCodeFromByteZero : ∃ s, load [[120]] p1File = .ok s := ⟨_, rfl⟩

theorem witness_LoadedMachineMeetsTheInvariant : ∃ s, load [] p1File = .ok s := witness_load

theorem witness_ContainerRoundTrip : p1.wf = true ∧ (includeNames p1.includeSection []).isSome = true ∧
    parseContainer p1File = .ok p1 ∧ p1File.length ≤ 10 + p1.includeLength + p1.assemblyLength :=
  ⟨by decide, by decide, rfl, by decide⟩

theorem reset_meets_MachineInv : MachineInv State.reset :=
  ⟨⟨by decide, by decide, by decide, by decide, by decide⟩, by decide, trivial⟩

/-- The last clause of `HostStopChangesNothing`: a run from an invariant state that a host stop ends after one step. -/
theorem witness_HostStopChangesNothing_resume : MachineInv State.reset ∧
    ∃ t, executeWhole [false, true] State.reset = .stopped .hostStop t ∧ t.pc < Config.romWords :=
  ⟨reset_meets_MachineInv, _, rfl, by decide⟩

theorem witness_StepKeepsTheInvariant : MachineInv State.reset ∧ ∃ t, step State.reset = .next t :=
  ⟨reset_meets_MachineInv, _, rfl⟩

theorem witness_CoreSetsAtMostOneBit : (∃ t, step State.reset = .next t) ∧ State.reset.extNames = [] ∧
    ∃ t, step { State.reset with extNames := [[120]] } = .next t := ⟨⟨_, rfl⟩, rfl, _, rfl⟩

/-- The other premise of `CoreSetsAtMostOneBit`: the reset state's first word is no INT. -/
theorem witness_CoreSetsAtMostOneBit_noInt (m : Bool) (d : Byte) :
    decodeWord (fetchWord { State.reset with extNames := [[120]] }) ≠ .int m d := by
  have h : decodeWord (fetchWord { State.reset with extNames := [[120]] }) = .nop false 0 := by decide
  rw [h]
  exact fun h => by cases h

theorem witness_ProgramTextIsConstant : ∃ t, Reaches State.reset t ∧ t.pc = 1 :=
  ⟨_, .step .start rfl, rfl⟩

theorem witness_BaccIsInert : (∃ t, exec (.adc true 3) State.reset = .next t) ∧
    ∃ s, Reaches (boot [] p1) s ∧ s.acc = 5 := ⟨⟨_, rfl⟩, _, .step .start rfl, by decide⟩

theorem witness_CountersCountAndAreInvisible : ∃ t, exec (.lra true 3) State.reset = .next t := ⟨_, rfl⟩

theorem witness_CarryWritersAndReaders : (∃ t, exec (.mul false 3) State.reset = .next t) ∧
    (Instr.mul false 3).mnemonic ∉
      [some .ccf, some .lsc, some .rsc, some .adc, some .sbc, some .inc, some .dec, some .add, some .sub] ∧
    (Instr.add false 3).mnemonic ∉ [some .jmpc, some .adc, some .sbc, some .lsc, some .rsc] :=
  ⟨⟨_, rfl⟩, by decide, by decide⟩

theorem witness_OnlyTheNamedInstructionsWrite : (∃ t, exec (.nop false 3) State.reset = .next t) ∧
    (Instr.nop false 3).mnemonic ∉
      [some .ccf, some .lsc, some .rsc, some .adc, some .sbc, some .inc, some .dec, some .add, some .sub] ∧
    (Instr.nop false 3).mnemonic ∉
      [some .call, some .ret, some .jmp, some .jmpp, some .jmpz, some .jmpn, some .jmpc] ∧
    (Instr.nop false 3).mnemonic ∉ [some .push, some .pop] ∧ (Instr.nop false 3).mnemonic ∉ [some .call, some .ret] ∧
    (Instr.nop false 3).mnemonic ≠ some .ccp ∧ (Instr.nop false 3).mnemonic ≠ some .crp ∧
    (Instr.nop false 3).mnemonic ∉ [some .sra, some .int] ∧ (Instr.nop false 3).mnemonic ∉ [some .prw, some .int] ∧
    (Instr.nop false 3).mnemonic ∉ [some .halt, some .int, some .div, some .mod, none] ∧
    (Instr.nop false 3).mnemonic ∈ [some .nop, some .sra] :=
  ⟨⟨_, rfl⟩, by decide, by decide, by decide, by decide, by decide, by decide, by decide, by decide, by decide, by decide⟩

/-- The other premise of `TrapEntryIsPrecise`: a HALT in a machine with a declared extension. -/
theorem witness_TrapEntryIsPrecise_extensions : ∃ t, exec (.halt false 0) { State.reset with extNames := [[120]] } = .next t ∧
    (Instr.halt false 0).mnemonic ≠ some .int ∧ t.interruptRegister.isSet = true := ⟨_, rfl, by decide, rfl⟩

theorem witness_TrapEntryIsPrecise : ∃ t, exec (.halt false 0) State.reset = .next t ∧ State.reset.extNames = [] ∧
    State.reset.interruptRegister.isSet = false ∧ t.interruptRegister.isSet = true := ⟨_, rfl, rfl, rfl, rfl⟩

theorem witness_NoInstructionClearsAStatusBit : ∃ t, exec (.nop false 0) (raise .halt State.reset) = .next t ∧
    (raise .halt State.reset).extNames = [] ∧ (raise .halt State.reset).interruptRegister.halted = true ∧
    (raise .interruptFatal State.reset).interruptRegister.interruptPending = true ∧
    (raise .divideByZero State.reset).interruptRegister.illegalInstruction = true := ⟨_, rfl, rfl, rfl, rfl, rfl⟩

theorem witness_PushesThenPopsReverse : (List.replicate 256 (7 : Byte)).length ≤ 256 :=
  le_of_eq List.length_replicate

theorem witness_CanonicalMemoriesWithEqualReadsAreEqual :
    Memory.wf 256 [(3, (1 : Byte)), (255, 2)] = true ∧
    ∀ a, Memory.read [(3, (1 : Byte)), (255, 2)] a = Memory.read [(3, (1 : Byte)), (255, 2)] a := ⟨by decide, fun _ => rfl⟩

theorem witness_RetAfterCallReturnsToTheLink : ∃ t u, State.reset.pc < Config.romWords ∧
    exec (.call false 3) State.reset = .next t ∧ exec (.ret false 9) t = .next u ∧ Config.callLinkOffset = 0 :=
  ⟨_, _, by decide, rfl, rfl, rfl⟩

theorem witness_LscShiftsLeftThroughCarry : 8 ≤ (busValue (.lsc false 8) State.reset).toNat := by decide

theorem witness_RscShiftsRightThroughCarry : 8 ≤ (busValue (.rsc false 8) State.reset).toNat := by decide

theorem witness_AbsTakesTheAbsoluteValue :
    (start 129 false).acc.toNat ≠ 128 ∧ (start 128 false).acc.toNat = 128 := by decide

theorem witness_DivisionByANonZeroDivisor : busValue (.div false 1) (start 255 false) ≠ 0 ∧
    busValue (.mod false 255) (start 255 false) ≠ 0 := by decide

theorem witness_ZeroDivisorEndsTheRun : busValue (.div false 0) (start 7 false) = 0 ∧
    busValue (.mod true 16) (start 7 false) = 0 := by decide

theorem witness_ReciprocalLookup : (busValue (.rpl false 0) State.reset).toNat = 0 ∧
    (busValue (.rpl false 1) State.reset).toNat ≠ 0 := by decide

theorem witness_IntWithExtensionsCompletes : { State.reset with extNames := [[120]] }.extNames ≠ [] := by decide

theorem witness_IntSkipsUnregisteredNames : { State.reset with extNames := [[120]] }.extNames ≠ [] ∧
    ∀ n ∈ { State.reset with extNames := [[120]] }.extNames, n ∉ { State.reset with extNames := [[120]] }.registry := by
  decide

theorem witness_IntAppliesTheExtensionsWrites :
    { State.reset with extNames := [[120]], registry := [[120]] }.extNames = [[120]] ∧
    [120] ∈ { State.reset with extNames := [[120]], registry := [[120]] }.registry := by decide

/-- The second clause of `IntAppliesTheExtensionsWrites`: three declared names, one of them not registered. -/
theorem witness_IntAppliesTheExtensionsWrites_several :
    { State.reset with extNames := [[120], [121], [122]], registry := [[120], [122]] }.extNames = [120] :: [[121], [122]] ∧
    ([[121], [122]] : List ExtName) ≠ [] := by decide

theorem witness_IntWithoutExtensionsEndsTheRun : State.reset.extNames = [] := by decide

theorem witness_UnmappedOpcodesEndTheRun : (Instr.illegal24 true 255).mnemonic = none ∧
    (Instr.illegal125 false 0).mnemonic = none := by decide

end Sys2Proof.Tests
end

