-- ==== Sys2Proof/Proofs/Effect.lean ====
section
/-! PROOFS. Every instruction first reads (the bus value, `acc`, the carry flag, ...) and then writes. `Effect` is what it
writes, `effectOf` is what it reads to find that out, and `exec_eq` says that the two together are `exec`. Statements about
writers and readers are then about the 17 effects, not about the 128 rows of the opcode table. -/

namespace Sys2Proof.Machine

/-- What one instruction writes besides the counters, with the values it found before writing. -/
inductive Effect where
  | nothing
  | acc (v : Byte)
  | carry (c : Bool)
  | accCarry (p : Byte × Bool)
  | jump (target : Nat)
  | call (target : Nat)
  | ret (v : Byte)
  | cachePage (v : Byte)
  | romPage (v : Byte)
  | cache (a : Word16) (v : Byte)
  | port (a v : Byte)
  | push (v : Byte)
  | pop
  | input (v : Byte)
  | output (e : HostEvent)
  | dispatch
  | raise (c : Fault)

/-- The writing half of an instruction, `pc` included. -/
def Effect.apply : Effect → State → State
  | .nothing, s => advance s
  | .acc v, s => advance (setAcc v s)
  | .carry c, s => advance (setCarry c s)
  | .accCarry p, s => advance (setAccCarry p s)
  | .jump target, s => jumpTo target s
  | .call target, s => jumpTo target (pushAdr (callLink s) s)
  | .ret v, s => setAcc v (jumpTo (topAdr (dropAdr s)) (dropAdr s))
  | .cachePage v, s => advance (setCachePage v s)
  | .romPage v, s => advance (setRomPage v s)
  | .cache a v, s => advance (writeCache a v s)
  | .port a v, s => advance (writePort a v s)
  | .push v, s => advance (pushAcc v s)
  | .pop, s => advance (setAcc (topAcc (dropAcc s)) (dropAcc s))
  | .input v, s => advance (countDraw (setAcc v s))
  | .output e, s => advance (emit e s)
  | .dispatch, s => advance (dispatchExtensions s)
  | .raise c, s => Machine.raise c s

/-- The reading half of an instruction: the effect of a mnemonic (none for an unmapped opcode) with bus value `b` and data
field `d`. -/
def effectOf (m : Option Mnemonic) (b d : Byte) (s : State) : Effect :=
  match m with
  | some .nop => .nothing
  | some .lra => .acc b
  | some .sra => .cache (eaCache s d) s.acc
  | some .call => .call (eaRom s b)
  | some .ret => .ret b
  | some .jmp => .jump (eaRom s b)
  | some .jmpp => .jump (if s.acc != 0 then eaRom s b else s.pc + 1)
  | some .jmpz => .jump (if s.acc == 0 then eaRom s b else s.pc + 1)
  | some .jmpn => .jump (if isNegative s.acc then eaRom s b else s.pc + 1)
  | some .jmpc => .jump (if s.carryFlag then eaRom s b else s.pc + 1)
  | some .ccf => .carry false
  | some .lrp => .acc (readCache s (eaCache s s.acc))
  | some .ccp => .cachePage b
  | some .crp => .romPage b
  | some .push => .push s.acc
  | some .pop => .pop
  | some .and => .acc (s.acc &&& b)
  | some .or => .acc (s.acc ||| b)
  | some .xor => .acc (s.acc ^^^ b)
  | some .not => .acc (complement s.acc)
  | some .lsc => .accCarry (shiftLeftCarry s.acc b s.carryFlag)
  | some .rsc => .accCarry (shiftRightCarry s.acc b s.carryFlag)
  | some .cmp => .acc (compareSigned s.acc b)
  | some .cmpu => .acc (compareUnsigned s.acc b)
  | some .adc => .accCarry (addCarry s.acc b s.carryFlag)
  | some .sbc => .accCarry (subBorrow s.acc b s.carryFlag)
  | some .inc => .accCarry (addCarry s.acc 1 false)
  | some .dec => .accCarry (subBorrow s.acc 1 false)
  | some .abs => .acc (absolute s.acc)
  | some .mul => .acc (productLow s.acc b)
  | some .div => if b = 0 then .raise .divideByZero else .acc (quotient s.acc b)
  | some .mod => if b = 0 then .raise .divideByZero else .acc (remainder s.acc b)
  | some .tse => .acc (sinLut s.acc)
  | some .tce => .acc (cosLut s.acc)
  | some .add => .accCarry (addCarry s.acc b false)
  | some .sub => .accCarry (subBorrow s.acc b false)
  | some .rpl => .acc (reciprocal b)
  | some .mulh => .acc (productHigh s.acc b)
  | some .ui => .input (Config.consoleIn s.draws)
  | some .uo => .output (.consoleOut .uo s.acc b)
  | some .uoc => .output (.consoleOut .uoc s.acc b)
  | some .uocr => .output (.consoleOut .uocr s.acc b)
  | some .prw => .port d s.acc
  | some .prr => .acc (readPort s d)
  | some .int => if s.extNames = [] then .raise .interruptFatal else .dispatch
  | some .halt => .raise .halt
  | none => .raise .illegalInstruction

/-- The effect an instruction has in a state. -/
def effect (i : Instr) (s : State) : Effect := effectOf i.mnemonic (busValue i s) i.data s

/-- Two ways to go on, chosen before anything is written. -/
theorem retire_apply_ite (i : Instr) (s : State) (c : Prop) [Decidable c] (e f : Effect) :
    (if c then retire i (e.apply s) else retire i (f.apply s)) = retire i ((if c then e else f).apply s) := by
  split <;> rfl

/-- Executing is reading, then writing, then counting. -/
theorem exec_eq (i : Instr) (s : State) :
    exec i s = .next (countInstr i.opcode i.memFlag ((effect i s).apply s)) := by
  rw [← retire_eq]
  cases i with
  | jmpp | jmpz | jmpn | jmpc => exact congrArg (retire _) (jumpIf_eq _ _ s)
  | div m d => exact retire_apply_ite _ s (busValue (.div m d) s = 0) (.raise .divideByZero) (.acc _)
  | mod m d => exact retire_apply_ite _ s (busValue (.mod m d) s = 0) (.raise .divideByZero) (.acc _)
  | int => exact retire_apply_ite _ s (s.extNames = []) (.raise .interruptFatal) .dispatch
  | _ => rfl

/-- The state an instruction answers. -/
theorem exec_next {i : Instr} {s t : State} (h : exec i s = .next t) :
    t = countInstr i.opcode i.memFlag ((effect i s).apply s) := by
  rw [exec_eq] at h
  exact (Host.Outcome.next.inj h).symm

/-- The instructions whose effect writes the accumulator alone. -/
def accOnlyMnemonics : List (Option Mnemonic) :=
  [some .lra, some .lrp, some .and, some .or, some .xor, some .not, some .cmp, some .cmpu, some .abs, some .mul, some .mulh,
    some .div, some .mod, some .tse, some .tce, some .rpl, some .prr]

/-- The instructions whose effect writes the accumulator and the carry flag. -/
def carryAccMnemonics : List (Option Mnemonic) :=
  [some .lsc, some .rsc, some .adc, some .sbc, some .inc, some .dec, some .add, some .sub]

/-- The conditions an instruction can raise, with the mnemonics that raise them (60_exceptions.md R200). -/
def raisers : List (Option Mnemonic × Fault) :=
  [(some .halt, .halt), (some .int, .interruptFatal), (some .div, .divideByZero), (some .mod, .divideByZero),
    (none, .illegalInstruction)]

/-- Which mnemonics can have an effect, and what is known of its values. -/
def Effect.Allowed (m : Option Mnemonic) (s : State) : Effect → Prop
  | .nothing => m = some .nop
  | .acc _ => m ∈ accOnlyMnemonics
  | .carry _ => m = some .ccf
  | .accCarry _ => m ∈ carryAccMnemonics
  | .jump target => m ∈ [some .jmp, some .jmpp, some .jmpz, some .jmpn, some .jmpc] ∧
      (target < Config.romWords ∨ target = s.pc + 1)
  | .call target => m = some .call ∧ target < Config.romWords
  | .ret _ => m = some .ret
  | .cachePage _ => m = some .ccp
  | .romPage _ => m = some .crp
  | .cache _ _ => m = some .sra
  | .port _ _ => m = some .prw
  | .push _ => m = some .push
  | .pop => m = some .pop
  | .input _ => m = some .ui
  | .output _ => m ∈ [some .uo, some .uoc, some .uocr]
  | .dispatch => m = some .int ∧ s.extNames ≠ []
  | .raise c => (m, c) ∈ raisers

/-- A jump, taken or not, goes inside the program store or to the next word. -/
theorem jumpTarget_bound (c : Bool) (b : Byte) (s : State) :
    (if c then eaRom s b else s.pc + 1) < Config.romWords ∨ (if c then eaRom s b else s.pc + 1) = s.pc + 1 := by
  cases c
  · exact .inr rfl
  · exact .inl (eaRom_lt s b)

theorem Effect.allowed_ite {m : Option Mnemonic} {s : State} {c : Prop} [Decidable c] {e f : Effect}
    (he : c → e.Allowed m s) (hf : ¬ c → f.Allowed m s) : (if c then e else f).Allowed m s := by
  split
  · next h => exact he h
  · next h => exact hf h

/-- What an instruction can do, over all mnemonics. -/
theorem effectOf_allowed (m : Option Mnemonic) (b d : Byte) (s : State) : (effectOf m b d s).Allowed m s := by
  rcases m with _ | m
  · simp [effectOf, Effect.Allowed, raisers]
  cases m with
  | jmp => exact ⟨by decide, .inl (eaRom_lt s b)⟩
  | jmpp | jmpz | jmpn | jmpc => exact ⟨by decide, jumpTarget_bound _ b s⟩
  | call => exact ⟨rfl, eaRom_lt s b⟩
  | div | mod =>
    exact Effect.allowed_ite (fun _ => by simp [Effect.Allowed, raisers])
      (fun _ => by simp [Effect.Allowed, accOnlyMnemonics])
  | int => exact Effect.allowed_ite (fun _ => by simp [Effect.Allowed, raisers]) (fun hx => ⟨rfl, hx⟩)
  | _ => simp [effectOf, Effect.Allowed, raisers, accOnlyMnemonics, carryAccMnemonics]

theorem effect_allowed (i : Instr) (s : State) : (effect i s).Allowed i.mnemonic s :=
  effectOf_allowed _ _ _ s

end Sys2Proof.Machine
end

