-- ==== Sys2Proof/Proofs/Frames.lean ====
section
/-! PROOFS. Which effects write each part of the state. In each lemma the named effects are the writers, whose mnemonics the
hypothesis excludes; every other effect leaves the part by definition. -/

namespace Sys2Proof.Machine

section Dispatch
variable (s : State)

theorem dispatchExtensions_eq : dispatchExtensions s = { s with
    ports := (dispatchExtensions s).ports
    dataBank := (dispatchExtensions s).dataBank
    interruptRegister := (dispatchExtensions s).interruptRegister
    draws := (dispatchExtensions s).draws
    trace := (dispatchExtensions s).trace } := dispatchExtensions_frame s

@[simp] theorem dispatchExtensions_acc : (dispatchExtensions s).acc = s.acc := by
  rw [dispatchExtensions_eq]
@[simp] theorem dispatchExtensions_bacc : (dispatchExtensions s).bacc = s.bacc := by
  rw [dispatchExtensions_eq]
@[simp] theorem dispatchExtensions_pc : (dispatchExtensions s).pc = s.pc := by
  rw [dispatchExtensions_eq]
@[simp] theorem dispatchExtensions_accStackPointer : (dispatchExtensions s).accStackPointer = s.accStackPointer := by
  rw [dispatchExtensions_eq]
@[simp] theorem dispatchExtensions_adrStackPointer : (dispatchExtensions s).adrStackPointer = s.adrStackPointer := by
  rw [dispatchExtensions_eq]
@[simp] theorem dispatchExtensions_carryFlag : (dispatchExtensions s).carryFlag = s.carryFlag := by
  rw [dispatchExtensions_eq]
@[simp] theorem dispatchExtensions_cachePage : (dispatchExtensions s).cachePage = s.cachePage := by
  rw [dispatchExtensions_eq]
@[simp] theorem dispatchExtensions_romPage : (dispatchExtensions s).romPage = s.romPage := by
  rw [dispatchExtensions_eq]
@[simp] theorem dispatchExtensions_programStore : (dispatchExtensions s).programStore = s.programStore := by
  rw [dispatchExtensions_eq]
@[simp] theorem dispatchExtensions_accStack : (dispatchExtensions s).accStack = s.accStack := by
  rw [dispatchExtensions_eq]
@[simp] theorem dispatchExtensions_adrStack : (dispatchExtensions s).adrStack = s.adrStack := by
  rw [dispatchExtensions_eq]
@[simp] theorem dispatchExtensions_extNames : (dispatchExtensions s).extNames = s.extNames := by
  rw [dispatchExtensions_eq]
@[simp] theorem dispatchExtensions_ended : (dispatchExtensions s).ended = s.ended := by
  rw [dispatchExtensions_eq]

end Dispatch

namespace Effect

section NeverWritten
variable (e : Effect) (s : State)

@[simp] theorem apply_bacc : (e.apply s).bacc = s.bacc := by
  cases e with
  | dispatch => exact dispatchExtensions_bacc s
  | _ => rfl

@[simp] theorem apply_programStore : (e.apply s).programStore = s.programStore := by
  cases e with
  | dispatch => exact dispatchExtensions_programStore s
  | _ => rfl

@[simp] theorem apply_extNames : (e.apply s).extNames = s.extNames := by
  cases e with
  | dispatch => exact dispatchExtensions_extNames s
  | _ => rfl

end NeverWritten

section Writers
variable {e : Effect} {m : Option Mnemonic} {s : State}

/-- How the one mnemonic of an effect is found in a list of writers. -/
theorem mem_of_mnemonic_eq {k : Option Mnemonic} {l : List (Option Mnemonic)} (h : m = k) (hk : k ∈ l) : m ∈ l := h ▸ hk

theorem apply_acc (h : e.Allowed m s) (hm : m ∈ [some .nop, some .sra, some .call, some .jmp, some .jmpp, some .jmpz,
    some .jmpn, some .jmpc, some .ccf, some .ccp, some .crp, some .push, some .uo, some .uoc, some .uocr, some .prw,
    some .int, some .halt, none]) : (e.apply s).acc = s.acc := by
  cases e with
  | acc => exact absurd hm ((by decide : ∀ m ∈ accOnlyMnemonics, m ∉ _) m h)
  | accCarry => exact absurd hm ((by decide : ∀ m ∈ carryAccMnemonics, m ∉ _) m h)
  | ret | pop | input => exact absurd hm (h ▸ by decide)
  | dispatch => exact dispatchExtensions_acc s
  | _ => rfl

theorem apply_carryFlag (h : e.Allowed m s) (hm : m ∉ [some .ccf, some .lsc, some .rsc, some .adc, some .sbc, some .inc,
    some .dec, some .add, some .sub]) : (e.apply s).carryFlag = s.carryFlag := by
  cases e with
  | carry => exact absurd (mem_of_mnemonic_eq h (by decide)) hm
  | accCarry => exact absurd (List.mem_cons_of_mem _ h) hm
  | dispatch => exact dispatchExtensions_carryFlag s
  | _ => rfl

theorem apply_accStackPointer (h : e.Allowed m s) (hm : m ∉ [some .push, some .pop]) :
    (e.apply s).accStackPointer = s.accStackPointer := by
  cases e with
  | push | pop => exact absurd (mem_of_mnemonic_eq h (by decide)) hm
  | dispatch => exact dispatchExtensions_accStackPointer s
  | _ => rfl

theorem apply_adrStackPointer (h : e.Allowed m s) (hm : m ∉ [some .call, some .ret]) :
    (e.apply s).adrStackPointer = s.adrStackPointer := by
  cases e with
  | call => exact absurd (mem_of_mnemonic_eq h.1 (by decide)) hm
  | ret => exact absurd (mem_of_mnemonic_eq h (by decide)) hm
  | dispatch => exact dispatchExtensions_adrStackPointer s
  | _ => rfl

theorem apply_cachePage (h : e.Allowed m s) (hm : m ≠ some .ccp) : (e.apply s).cachePage = s.cachePage := by
  cases e with
  | cachePage => exact absurd h hm
  | dispatch => exact dispatchExtensions_cachePage s
  | _ => rfl

theorem apply_romPage (h : e.Allowed m s) (hm : m ≠ some .crp) : (e.apply s).romPage = s.romPage := by
  cases e with
  | romPage => exact absurd h hm
  | dispatch => exact dispatchExtensions_romPage s
  | _ => rfl

theorem apply_dataBank (h : e.Allowed m s) (hm : m ∉ [some .sra, some .int]) : (e.apply s).dataBank = s.dataBank := by
  cases e with
  | cache => exact absurd (mem_of_mnemonic_eq h (by decide)) hm
  | dispatch => exact absurd (mem_of_mnemonic_eq h.1 (by decide)) hm
  | _ => rfl

theorem apply_ports (h : e.Allowed m s) (hm : m ∉ [some .prw, some .int]) : (e.apply s).ports = s.ports := by
  cases e with
  | port => exact absurd (mem_of_mnemonic_eq h (by decide)) hm
  | dispatch => exact absurd (mem_of_mnemonic_eq h.1 (by decide)) hm
  | _ => rfl

theorem apply_accStack (h : e.Allowed m s) (hm : m ≠ some .push) : (e.apply s).accStack = s.accStack := by
  cases e with
  | push => exact absurd h hm
  | dispatch => exact dispatchExtensions_accStack s
  | _ => rfl

theorem apply_adrStack (h : e.Allowed m s) (hm : m ≠ some .call) : (e.apply s).adrStack = s.adrStack := by
  cases e with
  | call => exact absurd h.1 hm
  | dispatch => exact dispatchExtensions_adrStack s
  | _ => rfl

theorem apply_interruptRegister (h : e.Allowed m s)
    (hm : m ∉ [some .halt, some .int, some .div, some .mod, none]) :
    (e.apply s).interruptRegister = s.interruptRegister := by
  cases e with
  | raise c => exact absurd (List.mem_map_of_mem (f := Prod.fst) h) hm
  | dispatch => exact absurd (mem_of_mnemonic_eq h.1 (by decide)) hm
  | _ => rfl

/-- An instruction that is no jump, call or return goes to the next word, or raises a condition and does nothing else. -/
theorem apply_pc (h : e.Allowed m s)
    (hm : m ∉ [some .call, some .ret, some .jmp, some .jmpp, some .jmpz, some .jmpn, some .jmpc]) :
    (e.apply s).pc = s.pc + 1 ∨ ∃ c, e.apply s = Machine.raise c s := by
  cases e with
  | jump => exact absurd (List.mem_cons_of_mem _ (List.mem_cons_of_mem _ h.1)) hm
  | call => exact absurd (mem_of_mnemonic_eq h.1 (by decide)) hm
  | ret => exact absurd (mem_of_mnemonic_eq h (by decide)) hm
  | raise c => exact .inr ⟨c, rfl⟩
  | dispatch => exact .inl (congrArg (· + 1) (dispatchExtensions_pc s))
  | _ => exact .inl rfl

end Writers

end Effect

/-- Settles O60: each clause is the frame of one part of the state, read off the effect the instruction is allowed. -/
theorem onlyTheNamedInstructionsWrite : Obligations.OnlyTheNamedInstructionsWrite := by
  intro i s t h
  obtain rfl := exec_next h
  have ha := effect_allowed i s
  exact ⟨Effect.apply_bacc _ s, Effect.apply_carryFlag ha,
    fun hm => (Effect.apply_pc ha hm).imp_right fun ⟨c, hc⟩ => ⟨c, congrArg _ hc⟩,
    Effect.apply_accStackPointer ha, Effect.apply_adrStackPointer ha, Effect.apply_cachePage ha, Effect.apply_romPage ha,
    Effect.apply_programStore _ s, Effect.apply_extNames _ s, Effect.apply_dataBank ha, Effect.apply_ports ha,
    Effect.apply_accStack ha, Effect.apply_adrStack ha, Effect.apply_interruptRegister ha, Effect.apply_acc ha⟩

end Sys2Proof.Machine
end

