-- ==== Sys2Proof/Proofs/Readers.lean ====
section
/-! PROOFS. What `bacc` and the carry flag can influence: a field is replaced before an instruction, and the reading half
and the writing half are shown, each for itself, not to notice. -/

namespace Sys2Proof.Machine

open Sys2Proof.Safety

/-- The dispatcher commutes with every change of the state that each of its turns commutes with. -/
theorem dispatchExtensions_comm {f : State → State} (hn : ∀ s, (f s).extNames = s.extNames)
    (hf : ∀ s n, dispatchOne (f s) n = f (dispatchOne s n)) (s : State) :
    dispatchExtensions (f s) = f (dispatchExtensions s) := by
  unfold dispatchExtensions
  rw [hn]
  exact List.foldl_hom f (hf · ·)

/-- No effect depends on `bacc`. -/
theorem effect_setBacc (i : Instr) (s : State) (v : Byte) : effect i { s with bacc := v } = effect i s := rfl

theorem dispatchOne_setBacc (s : State) (n : ExtName) (v : Byte) :
    dispatchOne { s with bacc := v } n = { dispatchOne s n with bacc := v } := by
  unfold dispatchOne
  split <;> rfl

theorem dispatchExtensions_setBacc (s : State) (v : Byte) :
    dispatchExtensions { s with bacc := v } = { dispatchExtensions s with bacc := v } :=
  dispatchExtensions_comm (f := fun s => { s with bacc := v }) (fun _ => rfl) (dispatchOne_setBacc · · v) s

/-- No effect writes `bacc`, nor anything computed from it. -/
theorem Effect.apply_setBacc (e : Effect) (s : State) (v : Byte) :
    e.apply { s with bacc := v } = { e.apply s with bacc := v } := by
  cases e with
  | dispatch => exact congrArg advance (dispatchExtensions_setBacc s v)
  | _ => rfl

/-- A run of one instruction is the same for every `bacc`, `bacc` aside. -/
theorem exec_setBacc (i : Instr) (s : State) (v : Byte) :
    Related SameButBacc (exec i s) (exec i { s with bacc := v }) := by
  rw [exec_eq, exec_eq, effect_setBacc i s v, Effect.apply_setBacc _ s v]
  rfl

/-- Only five mnemonics' effects depend on the carry flag. -/
theorem effectOf_setCarry {m : Option Mnemonic} (hm : m ∉ [some .jmpc, some .adc, some .sbc, some .lsc, some .rsc])
    (b d : Byte) (s : State) (c : Bool) : effectOf m b d { s with carryFlag := c } = effectOf m b d s := by
  rcases m with _ | m
  · rfl
  cases m with
  | jmpc | adc | sbc | lsc | rsc => exact absurd (by decide) hm
  | _ => rfl

theorem dispatchOne_setCarry (s : State) (n : ExtName) (c : Bool) :
    dispatchOne { s with carryFlag := c } n = { dispatchOne s n with carryFlag := c } := by
  unfold dispatchOne
  split <;> rfl

theorem dispatchExtensions_setCarry (s : State) (c : Bool) :
    dispatchExtensions { s with carryFlag := c } = { dispatchExtensions s with carryFlag := c } :=
  dispatchExtensions_comm (f := fun s => { s with carryFlag := c }) (fun _ => rfl) (dispatchOne_setCarry · · c) s

/-- An effect overwrites the carry flag or leaves it, and lets it influence nothing else. -/
theorem Effect.apply_setCarry (e : Effect) (s : State) (c : Bool) :
    SameButCarry (e.apply s) (e.apply { s with carryFlag := c }) := by
  cases e with
  | dispatch =>
    change SameButCarry (advance _) (advance (dispatchExtensions { s with carryFlag := c }))
    rw [dispatchExtensions_setCarry s c]
    rfl
  | _ => rfl

/-- Settles O23: the writers are the effects' (`Effect.apply_carryFlag`); a reader would need an effect that depends on the
flag or an application that does. -/
theorem carryWritersAndReaders : Obligations.CarryWritersAndReaders := by
  refine ⟨fun i s t h hm => ?_, fun i s c hm => ?_⟩
  · obtain rfl := exec_next h
    exact Effect.apply_carryFlag (effect_allowed i s) hm
  · have hr : effect i { s with carryFlag := c } = effect i s := effectOf_setCarry hm _ _ s c
    rw [exec_eq, exec_eq, hr]
    exact congrArg (countInstr _ _) (Effect.apply_setCarry _ s c)

theorem exec_bacc {i : Instr} {s t : State} (h : exec i s = .next t) : t.bacc = s.bacc := by
  obtain rfl := exec_next h
  exact Effect.apply_bacc _ s

/-- Nothing in a run writes `bacc`. -/
theorem reaches_bacc {s t : State} (h : Reaches s t) : t.bacc = s.bacc := by
  induction h with
  | start => rfl
  | step _ hs ih =>
    obtain ⟨-, -, -, he⟩ := step_next hs
    exact (exec_bacc he).trans ih
  | poll _ _ ih => exact ih
  | resume _ ih => exact ih

/-- Settles O21, by the two halves of an instruction and induction over the run. -/
theorem baccIsInert : Obligations.BaccIsInert :=
  ⟨rfl, fun _ _ _ => exec_bacc, exec_setBacc, fun _ _ _ => reaches_bacc⟩

end Sys2Proof.Machine
end

