-- ==== Sys2Proof/Proofs/Invariant.lean ====
section
/-! PROOFS. The machine's invariant: it holds at reset and after every load, and each of its three clauses is kept by every
step. -/

namespace Sys2Proof.Machine

open Sys2Proof.Safety

/-- Settles O13: each register is 0 by the definition of the reset state, and an empty memory reads as 0. -/
theorem resetIsAllZero : Obligations.ResetIsAllZero := by
  refine ⟨rfl, rfl, rfl, rfl, rfl, rfl, rfl, rfl, by decide, rfl, rfl, rfl, fun sp a => ?_⟩
  cases sp with
  | rom | cache | astack | dstack | ports => rfl

/-- The empty memory is canonical. -/
@[simp] theorem memory_wf_nil {w size : Nat} : Memory.wf size ([] : Memory w) = true := by simp [Memory.wf]

/-- A state with a good program store and nothing else in its memories, at a fresh start, meets the invariant. -/
theorem machineInv_of_fresh {p : Memory 8} (hp : p.wf Config.romBytes = true) (names registry : List ExtName)
    (trace : List HostEvent) : MachineInv
      { State.reset with programStore := p, extNames := names, registry := registry, trace := trace } :=
  ⟨⟨hp, memory_wf_nil, memory_wf_nil, memory_wf_nil, memory_wf_nil⟩, Nat.zero_le _, trivial⟩

/-- Settles O16. -/
theorem resetMeetsTheInvariant : Obligations.ResetMeetsTheInvariant := machineInv_of_fresh memory_wf_nil [] [] []

theorem boot_machineInv (registry : List ExtName) (c : Container) : MachineInv (boot registry c) :=
  machineInv_of_fresh (Memory.wf_copyFrom memory_wf_nil 0 _ (by simpa using loadedCode_length_le c)) _ _ _

/-- Settles O17: what is loaded is a booted container, whose copied code fits the program store. -/
theorem loadedMachineMeetsTheInvariant : Obligations.LoadedMachineMeetsTheInvariant := by
  intro registry file s h
  obtain ⟨c, -, rfl⟩ : ∃ c, parseContainer file = .ok c ∧ boot registry c = s := by
    unfold load at h
    cases hp : parseContainer file with
    | error e => simp [hp, Except.map] at h
    | ok c => exact ⟨c, rfl, by simpa [hp, Except.map] using h⟩
  exact boot_machineInv registry c

section StepLemmas
variable {e : Effect} {m : Option Mnemonic} {s : State}

/-- Every effect writes memories inside their spaces only: the addresses have as many bits as the space needs. -/
theorem Effect.apply_memoriesWf (e : Effect) (h : MemoriesWf s) : MemoriesWf (e.apply s) := by
  obtain ⟨hrom, hcache, hacc, hadr, hports⟩ := h
  cases e with
  | cache a v => exact ⟨hrom, Memory.wf_write hcache a.isLt v, hacc, hadr, hports⟩
  | port a v => exact ⟨hrom, hcache, hacc, hadr, Memory.wf_write hports a.isLt v⟩
  | push v => exact ⟨hrom, hcache, Memory.wf_write hacc s.accStackPointer.isLt v, hadr, hports⟩
  | call target => exact ⟨hrom, hcache, hacc, Memory.wf_write hadr s.adrStackPointer.isLt _, hports⟩
  | dispatch =>
    obtain ⟨hp, hc⟩ := dispatchExtensions_wf hports hcache
    exact ⟨by simpa [Effect.apply] using hrom, hc, by simpa [Effect.apply] using hacc,
      by simpa [Effect.apply] using hadr, hp⟩
  | _ => exact ⟨hrom, hcache, hacc, hadr, hports⟩

/-- From a word of the program store `pc` goes at most to `PC_MAX`: jumps and returns stay inside the store, and the next
word is at most one past it. -/
theorem Effect.apply_pc_le (h : e.Allowed m s) (hpc : s.pc < Config.romWords) : (e.apply s).pc ≤ Config.pcMax := by
  cases e with
  | jump target =>
    obtain ⟨-, ht | rfl⟩ := h
    · exact Nat.le_of_lt ht
    · exact hpc
  | call target => exact Nat.le_of_lt h.2
  | ret v => exact Nat.le_of_lt (topAdr_lt (dropAdr s))
  | raise c => exact Nat.le_of_lt hpc
  | dispatch => exact (congrArg (· + 1) (dispatchExtensions_pc s)).trans_le hpc
  | _ => exact hpc

/-- An instruction that raises no condition leaves the report to the host. -/
theorem Effect.apply_ended (he : ∀ c, e ≠ .raise c) : (e.apply s).ended = s.ended := by
  cases e with
  | raise c => exact absurd rfl (he c)
  | dispatch => exact dispatchExtensions_ended s
  | _ => rfl

theorem endRecorded_of_none (h : s.ended = none) : EndRecorded s := by
  unfold EndRecorded
  rw [h]
  trivial

/-- A raised condition that some instruction raises is recorded in its bit. -/
theorem endRecorded_raise {c : Fault} (h : (m, c) ∈ raisers) : EndRecorded (raise c s) := by
  cases c with
  | halt | illegalInstruction | interruptFatal | divideByZero => rfl
  | programCounterOverflow | hostStop | deviceStop => simp [raisers] at h

/-- While no bit of the interrupt register is set, a faithful report is no report. -/
theorem ended_eq_none (h : EndRecorded s) (hclear : s.interruptRegister.isSet = false) : s.ended = none := by
  simp only [InterruptRegister.isSet, Bool.or_eq_false_iff] at hclear
  unfold EndRecorded at h
  cases hs : s.ended with
  | none => rfl
  | some c => cases c <;> simp [hs, hclear] at h

theorem Effect.apply_endRecorded (h : e.Allowed m s) (hs : s.ended = none) : EndRecorded (e.apply s) := by
  by_cases he : ∃ c, e = .raise c
  · obtain ⟨c, rfl⟩ := he
    exact endRecorded_raise h
  · exact endRecorded_of_none ((Effect.apply_ended (not_exists.1 he)).trans hs)

/-- The three bits are told apart while the register was clear before the one that is set. -/
theorem atMostOneBit_markCondition {r : InterruptRegister} (h : r.isSet = false) (c : Fault) :
    AtMostOneBit (markCondition c r) := by
  simp only [InterruptRegister.isSet, Bool.or_eq_false_iff, bne_eq_false_iff_eq] at h
  cases c <;> simp [AtMostOneBit, markCondition, h]

theorem atMostOneBit_of_clear {r : InterruptRegister} (h : r.isSet = false) : AtMostOneBit r :=
  atMostOneBit_markCondition h .hostStop

/-- Only the dispatcher can set more than one bit of a clear interrupt register. -/
theorem Effect.apply_atMostOneBit (he : e ≠ .dispatch) (hclear : s.interruptRegister.isSet = false) :
    AtMostOneBit (e.apply s).interruptRegister := by
  cases e with
  | dispatch => exact absurd rfl he
  | raise c => exact atMostOneBit_markCondition hclear c
  | _ => exact atMostOneBit_of_clear hclear

end StepLemmas

theorem pc_lt_of_pcInRange {s : State} (h : pcInRange s = true) : s.pc < Config.romWords := by
  have hbytes : 2 * s.pc + 1 < 131072 := of_decide_eq_true h
  change s.pc < 65536
  omega

/-- Counting touches nothing the invariant speaks of. -/
theorem machineInv_countInstr {op : Opcode} {m : Bool} {s : State} (h : MachineInv s) :
    MachineInv (countInstr op m s) := h

/-- Settles O18: the guard of the step makes the register clear and `pc` in range, and each clause is then kept by the
instruction's effect. -/
theorem stepKeepsTheInvariant : Obligations.StepKeepsTheInvariant := by
  rintro s t ⟨hmem, -, hrec⟩ h
  obtain ⟨hclear, -, hpc, hexec⟩ := step_next h
  obtain rfl := exec_next hexec
  have ha := effect_allowed (decodeWord (fetchWord s)) s
  exact machineInv_countInstr ⟨Effect.apply_memoriesWf _ hmem, Effect.apply_pc_le ha (pc_lt_of_pcInRange hpc),
    Effect.apply_endRecorded ha (ended_eq_none hrec hclear)⟩

theorem eq_int_of_mnemonic {i : Instr} (h : i.mnemonic = some .int) : ∃ m d, i = .int m d := by
  cases i with
  | int m d => exact ⟨m, d, rfl⟩
  | _ => simp [Instr.mnemonic] at h

/-- The dispatcher runs only for `INT` with a declared extension. -/
theorem effect_ne_dispatch {i : Instr} {s : State} (h : s.extNames = [] ∨ ∀ m d, i ≠ .int m d) :
    effect i s ≠ .dispatch := by
  intro he
  have ha := effect_allowed i s
  rw [he] at ha
  obtain ⟨hint, hnames⟩ := ha
  obtain ⟨m, d, hi⟩ := eq_int_of_mnemonic hint
  exact h.elim hnames (fun hno => hno m d hi)

/-- Settles O19: a step starts from a clear register, and without the dispatcher it marks at most one condition. -/
theorem coreSetsAtMostOneBit : Obligations.CoreSetsAtMostOneBit := by
  intro s t h hno
  obtain ⟨hclear, -, -, hexec⟩ := step_next h
  obtain rfl := exec_next hexec
  exact Effect.apply_atMostOneBit (effect_ne_dispatch hno) hclear

end Sys2Proof.Machine
end

