-- ==== Sys2Proof/Proofs/Memories.lean ====
section
/-! PROOFS. The memories: a canonical memory holds exactly its non-zero reads, so the reads determine it; where the two
stacks push and pop; and that no run writes the program store. -/

namespace Sys2Proof

/-- A canonical memory lists exactly the cells that do not read as 0. -/
theorem Memory.mem_iff_read {w size : Nat} {m : Memory w} (h : m.wf size = true) (a : Nat) (v : BitVec w) :
    (a, v) ∈ m ↔ m.read a = v ∧ v ≠ 0 := by
  rw [Memory.wf_iff] at h
  obtain ⟨hs, hm⟩ := h
  induction m with
  | nil => exact ⟨nofun, fun ⟨hv, hv0⟩ => absurd hv.symm hv0⟩
  | cons c m ih =>
    obtain ⟨k, x⟩ := c
    obtain ⟨hk, hs'⟩ := List.pairwise_cons.1 hs
    obtain ⟨⟨-, hx0⟩, hm'⟩ := List.forall_mem_cons.1 hm
    by_cases hka : k = a
    · subst hka
      have hnot : (k, v) ∉ m := fun hv => lt_irrefl k (hk _ hv)
      simp only [Memory.read, if_true, List.mem_cons, Prod.mk.injEq, true_and, hnot, or_false]
      exact ⟨fun hvx => ⟨hvx.symm, hvx ▸ hx0⟩, fun hxv => hxv.1.symm⟩
    · simp [Memory.read, hka, Ne.symm hka, ih hs' hm']

/-- Settles O28: two memories with the same reads list the same cells, and rising addresses leave only one order. -/
theorem canonicalMemoriesWithEqualReadsAreEqual : Obligations.CanonicalMemoriesWithEqualReadsAreEqual := by
  intro w size m m' h h' hread
  obtain ⟨hs, -⟩ := (Memory.wf_iff size m).1 h
  obtain ⟨hs', -⟩ := (Memory.wf_iff size m').1 h'
  refine List.Pairwise.eq_of_mem_iff (r := InvImage (· < ·) Prod.fst) hs hs' fun ⟨a, v⟩ => ?_
  rw [Memory.mem_iff_read h, Memory.mem_iff_read h', hread]

end Sys2Proof

namespace Sys2Proof.Machine

open Sys2Proof.Safety

/-- A stack pointer moves down by 1 modulo 256. -/
theorem stackPointer_sub_one (p : Byte) : ((p - 1).toNat : Int) = ((p.toNat : Int) - 1) % 256 := by
  have hsub : (p - 1).toNat = (255 + p.toNat) % 256 := BitVec.toNat_sub p 1
  omega

theorem peek_astack_pushAcc (v : Byte) (s : State) (a : Nat) :
    peek .astack (pushAcc v s) a = if a = s.accStackPointer.toNat then v.toNat else peek .astack s a := by
  simp only [peek, pushAcc_accStack, Memory.read_write, apply_ite BitVec.toNat]

theorem peek_dstack_pushAdr (v : Nat) (s : State) (a : Nat) :
    peek .dstack (pushAdr v s) a =
      if a = s.adrStackPointer.toNat then v % 2 ^ Config.adrStackEntryBits else peek .dstack s a := by
  simp only [peek, pushAdr_adrStack, Memory.read_write, apply_ite BitVec.toNat, BitVec.toNat_ofNat]

/-- Settles O26: a push is one write at the pointer, the pointers are bytes, and what is left alone is left alone by
definition. -/
theorem stackAddressing : Obligations.StackAddressing := by
  refine ⟨fun s v => ?_, fun s v => ?_, rfl, rfl, rfl, rfl⟩
  · exact ⟨BitVec.toNat_add _ 1, peek_astack_pushAcc v s, stackPointer_sub_one _, rfl, rfl, rfl⟩
  · exact ⟨BitVec.toNat_add _ 1, peek_dstack_pushAdr v s, stackPointer_sub_one _, rfl, rfl, rfl⟩

theorem exec_programStore {i : Instr} {s t : State} (h : exec i s = .next t) : t.programStore = s.programStore := by
  obtain rfl := exec_next h
  exact Effect.apply_programStore _ s

/-- Nothing in a run writes the program store. -/
theorem reaches_programStore {s t : State} (h : Reaches s t) : t.programStore = s.programStore := by
  induction h with
  | start => rfl
  | step _ hs ih =>
    obtain ⟨-, -, -, he⟩ := step_next hs
    exact (exec_programStore he).trans ih
  | poll _ _ ih => exact ih
  | resume _ ih => exact ih

/-- A fetch depends on the program store and `pc` alone. -/
theorem fetchWord_congr {s t : State} (hstore : t.programStore = s.programStore) (hpc : t.pc = s.pc) :
    fetchWord t = fetchWord s := by
  simp only [fetchWord, hstore, hpc]

/-- Settles O20: no instruction, poll or resumption writes the store, and with the same store and `pc` the fetch is the
same. -/
theorem programTextIsConstant : Obligations.ProgramTextIsConstant := by
  intro s t h
  have hstore := reaches_programStore h
  exact ⟨hstore, fun _ => fetchWord_congr hstore rfl⟩

end Sys2Proof.Machine
end

/-! PROOFS. The encoding: a word and its fields determine each other; the row that an opcode selects carries that opcode and
the fields it was given, so decoder and encoder are inverse to each other. -/

namespace Sys2Proof

/-! ### A word and its three fields -/

/-- The formula of 30_encoding.md R71: the three shifted fields do not overlap, so their `|||` is their sum. -/
theorem encodeFields_toNat_shifts (m : Bool) (d : Byte) (op : Opcode) :
    (encodeFields m d op).toNat = (m.toNat <<< 15) ||| (d.toNat <<< 7) ||| op.toNat := by
  have hd : d.toNat <<< 7 < 2 ^ 15 := by have := d.isLt; rw [Nat.shiftLeft_eq]; omega
  have hmd : m.toNat <<< 15 + d.toNat <<< 7 = (256 * m.toNat + d.toNat) <<< 7 := by
    simp only [Nat.shiftLeft_eq]; omega
  calc (encodeFields m d op).toNat
      = (256 * m.toNat + d.toNat) <<< 7 + op.toNat := by rw [encodeFields_toNat, Nat.shiftLeft_eq]; omega
    _ = (m.toNat <<< 15) ||| (d.toNat <<< 7) ||| op.toNat := by
      rw [Nat.shiftLeft_add_eq_or_of_lt op.isLt, ← hmd, Nat.shiftLeft_add_eq_or_of_lt hd]

@[simp] theorem encodeFields_fields (w : Word16) : encodeFields (flagField w) (dataField w) (opcodeField w) = w :=
  word_eq_of_fields (flagField_encodeFields ..) (dataField_encodeFields ..) (opcodeField_encodeFields ..)

/-- Settles O1: the fields of a built word are the ones it was built from, and a word is the one its fields build. -/
theorem wordsAreFieldTriples : Obligations.WordsAreFieldTriples := by
  refine ⟨fun m d op => ?_, fun w => ?_⟩
  · exact ⟨flagField_encodeFields .., dataField_encodeFields .., opcodeField_encodeFields ..,
      encodeFields_toNat_shifts m d op⟩
  · refine ⟨encodeFields_fields w, ?_, ?_, ?_⟩
    · rw [flagField_toNat, Nat.shiftRight_eq_div_pow]
    · rw [dataField_toNat, Nat.shiftRight_eq_div_pow]
      exact (Nat.and_two_pow_sub_one_eq_mod _ 8).symm
    · rw [opcodeField_toNat]
      exact (Nat.and_two_pow_sub_one_eq_mod _ 7).symm

end Sys2Proof

namespace Sys2Proof.Laws.RawFields

/-- The family `RawFields` over all 128 rows. -/
theorem statement (i : Instr) : Statement i :=
  i.casesOn nop lra sra call ret jmp jmpp jmpz jmpn jmpc ccf lrp ccp crp push pop and or xor not lsc rsc cmp cmpu
    adc sbc inc dec abs mul div mod tse tce add sub rpl mulh ui uo uoc uocr prw prr int halt
    illegal24 illegal25 illegal26 illegal27 illegal28 illegal29 illegal30 illegal31 illegal46 illegal47
    illegal52 illegal53 illegal54 illegal55 illegal56 illegal57 illegal58 illegal59 illegal60 illegal61
    illegal62 illegal63 illegal64 illegal65 illegal66 illegal67 illegal68 illegal69 illegal70 illegal71
    illegal72 illegal73 illegal74 illegal75 illegal76 illegal77 illegal78 illegal79 illegal80 illegal81
    illegal82 illegal83 illegal84 illegal85 illegal86 illegal87 illegal88 illegal89 illegal90 illegal91
    illegal92 illegal93 illegal94 illegal95 illegal96 illegal97 illegal98 illegal99 illegal100 illegal101
    illegal102 illegal103 illegal104 illegal105 illegal106 illegal107 illegal108 illegal109 illegal110 illegal111
    illegal114 illegal115 illegal116 illegal117 illegal118 illegal119 illegal120 illegal121 illegal122 illegal123
    illegal124 illegal125

end Sys2Proof.Laws.RawFields

namespace Sys2Proof

/-! ### Decoding an encoded instruction -/

/-- Looking up the fields of an instruction finds the instruction. -/
theorem instrOf_own_fields (i : Instr) : instrOf i.opcode i.memFlag i.data = i := (Laws.RawFields.statement i).2

theorem decodeWord_encodeFields (m : Bool) (d : Byte) (op : Opcode) :
    decodeWord (encodeFields m d op) = instrOf op m d := by
  rw [decodeWord, opcodeField_encodeFields, flagField_encodeFields, dataField_encodeFields]

@[simp] theorem decodeWord_encode (i : Instr) : decodeWord (encode i) = i :=
  (decodeWord_encodeFields ..).trans (instrOf_own_fields i)

/-- Settles O2: the lookup finds the row of the instruction, and the two bytes in store order are the word. -/
theorem decodeOfEncodeIsIdentity : Obligations.DecodeOfEncodeIsIdentity := by
  intro i rest
  refine ⟨decodeWord_encode i, ?_⟩
  calc decode (encodeBytes i ++ rest)
      = .ok (decodeWord (wordOfBytes (lowByte (encode i)) (highByte (encode i))), rest) := decode_cons_cons ..
    _ = .ok (i, rest) := by rw [wordOfBytes_lowByte_highByte, decodeWord_encode]

/-! ### The row an opcode selects -/

/-- An instruction's row with other fields: the opcode and the mnemonic belong to the row alone. -/
theorem exists_same_row (i : Instr) : ∃ row : Bool → Byte → Instr, (∃ m d, row m d = i) ∧ ∀ m d,
    (row m d).opcode = i.opcode ∧ (row m d).mnemonic = i.mnemonic ∧ (row m d).memFlag = m ∧ (row m d).data = d := by
  cases i <;> exact ⟨_, ⟨_, _, rfl⟩, fun _ _ => ⟨rfl, rfl, rfl, rfl⟩⟩

/-- Each of the 128 opcodes has a row of its own, so the lookup never falls back. -/
theorem opcode_instrOf_zero : ∀ op : Opcode, (instrOf op false 0).opcode = op := by decide

/-- What the lookup answers: the opcode and the fields it was given, and the mnemonic of the opcode's row. -/
theorem instrOf_spec (op : Opcode) (m : Bool) (d : Byte) :
    (instrOf op m d).opcode = op ∧ (instrOf op m d).mnemonic = (instrOf op false 0).mnemonic ∧
      (instrOf op m d).memFlag = m ∧ (instrOf op m d).data = d := by
  obtain ⟨row, -, hrow⟩ := exists_same_row (instrOf op false 0)
  obtain ⟨hop, hmn, hm, hd⟩ := hrow m d
  rw [opcode_instrOf_zero] at hop
  have hlookup : instrOf op m d = row m d := by
    have := instrOf_own_fields (row m d)
    rwa [hop, hm, hd] at this
  rw [hlookup]
  exact ⟨hop, hmn, hm, hd⟩

theorem opcode_decodeWord (w : Word16) : (decodeWord w).opcode = opcodeField w := (instrOf_spec ..).1

theorem encode_instrOf (op : Opcode) (m : Bool) (d : Byte) : encode (instrOf op m d) = encodeFields m d op := by
  obtain ⟨hop, -, hm, hd⟩ := instrOf_spec op m d
  rw [encode, hop, hm, hd]

/-- Settles O3: the row looked up carries the word's own fields, and they build the word again. -/
theorem encodeOfDecodeIsIdentity : Obligations.EncodeOfDecodeIsIdentity := fun w =>
  (encode_instrOf ..).trans (encodeFields_fields w)

/-! ### Mnemonics and opcode numbers -/

/-- The opcode numbers to which 30_encoding.md R77 gives no mnemonic (log entry 1). -/
abbrev IsUnmappedNumber (n : Nat) : Prop :=
  (24 ≤ n ∧ n ≤ 31) ∨ (46 ≤ n ∧ n ≤ 47) ∨ (52 ≤ n ∧ n ≤ 111) ∨ (114 ≤ n ∧ n ≤ 125)

theorem not_isUnmappedNumber_opc (k : Mnemonic) : ¬ IsUnmappedNumber (opc k).toNat := by
  cases k <;> decide

theorem opcode_of_mnemonic_eq_some {i : Instr} {k : Mnemonic} (h : i.mnemonic = some k) : i.opcode = opc k := by
  cases i <;> cases h <;> rfl

theorem isUnmappedNumber_of_mnemonic_eq_none {i : Instr} (h : i.mnemonic = none) : IsUnmappedNumber i.opcode.toNat := by
  cases i <;> cases h <;> (change IsUnmappedNumber (BitVec.ofNat 7 _).toNat; decide)

/-- A row without a mnemonic has a number in the gaps of `opc`, a row with one has its mnemonic's number. -/
theorem mnemonic_eq_none_iff (i : Instr) : i.mnemonic = none ↔ IsUnmappedNumber i.opcode.toNat := by
  refine ⟨isUnmappedNumber_of_mnemonic_eq_none, fun hgap => ?_⟩
  cases hk : i.mnemonic with
  | none => rfl
  | some k =>
    rw [opcode_of_mnemonic_eq_some hk] at hgap
    exact absurd hgap (not_isUnmappedNumber_opc k)

/-- Settles O4: the decoded row carries the word's low seven bits as its number. -/
theorem illegalWordsAreTheUnmappedOpcodes : Obligations.IllegalWordsAreTheUnmappedOpcodes := by
  intro w
  rw [mnemonic_eq_none_iff, opcode_decodeWord, opcodeField_toNat]

/-! ### Lines of assembly -/

theorem mnemonic_instrOf_opc_zero (k : Mnemonic) : (instrOf (opc k) false 0).mnemonic = some k := by
  cases k <;> decide

theorem AsmLine.wf_iff (l : AsmLine) : l.wf = true ↔ l.operand.getD 0 ≤ 255 := by
  cases h : l.operand <;> simp [AsmLine.wf, h]

/-- Settles O6: a line's word is built from the number of its mnemonic, which selects the row of that mnemonic; an operand up
to 255 fits the data field. -/
theorem assemblyLineDecodesToItsMnemonic : Obligations.AssemblyLineDecodesToItsMnemonic := by
  refine fun l => ⟨fun hwf => ⟨_, if_pos hwf, ?_⟩, fun hwf => if_neg (by simp [hwf])⟩
  obtain ⟨-, hmn, hm, hd⟩ := instrOf_spec (opc l.mnemonic) l.dollar (BitVec.ofNat 8 (l.operand.getD 0))
  rw [decodeWord_encodeFields, hmn, hm, hd]
  have hle := l.wf_iff.1 hwf
  exact ⟨mnemonic_instrOf_opc_zero _, rfl, Nat.mod_eq_of_lt (by omega)⟩

end Sys2Proof

/-! PROOFS. What surrounds an instruction's own effect: the counters, which no effect reads or writes, so that counting at
the end is all that happens to them; the bus value, resolved before it; and the guard, which alone decides whether there is a
step. -/

namespace Sys2Proof.Machine

open Sys2Proof.Safety

/-! ### What writes the counters -/

@[simp] theorem dispatchExtensions_tickCounter (s : State) : (dispatchExtensions s).tickCounter = s.tickCounter := by
  rw [dispatchExtensions_eq]

@[simp] theorem dispatchExtensions_instructionCounter (s : State) :
    (dispatchExtensions s).instructionCounter = s.instructionCounter := by
  rw [dispatchExtensions_eq]

@[simp] theorem Effect.apply_tickCounter (e : Effect) (s : State) : (e.apply s).tickCounter = s.tickCounter := by
  cases e with
  | dispatch => exact dispatchExtensions_tickCounter s
  | _ => rfl

@[simp] theorem Effect.apply_instructionCounter (e : Effect) (s : State) :
    (e.apply s).instructionCounter = s.instructionCounter := by
  cases e with
  | dispatch => exact dispatchExtensions_instructionCounter s
  | _ => rfl

theorem exec_instructionCounter {i : Instr} {s t : State} (h : exec i s = .next t) :
    t.instructionCounter = s.instructionCounter + 1 := by
  obtain rfl := exec_next h
  exact congrArg (· + 1) (Effect.apply_instructionCounter _ s)

theorem exec_tickCounter {i : Instr} {s t : State} (h : exec i s = .next t) :
    t.tickCounter = s.tickCounter + tickCost i.opcode i.memFlag := by
  obtain rfl := exec_next h
  exact congrArg (· + tickCost i.opcode i.memFlag) (Effect.apply_tickCounter _ s)

/-! ### What reads the counters -/

/-- The state with other values in the two counters. -/
def setCounters (k n : Nat) (s : State) : State := { s with tickCounter := k, instructionCounter := n }

section Readers
variable (s : State) (k n : Nat)

/-- No effect depends on the counters. -/
theorem effect_setCounters (i : Instr) : effect i (setCounters k n s) = effect i s := rfl

theorem dispatchOne_setCounters (name : ExtName) :
    dispatchOne (setCounters k n s) name = setCounters k n (dispatchOne s name) := by
  have hregistry : (setCounters k n s).registry = s.registry := rfl
  unfold dispatchOne
  rw [hregistry]
  split <;> rfl

theorem dispatchExtensions_setCounters :
    dispatchExtensions (setCounters k n s) = setCounters k n (dispatchExtensions s) :=
  dispatchExtensions_comm (f := setCounters k n) (fun _ => rfl) (fun t => dispatchOne_setCounters t k n) s

/-- An effect carries the counters along and computes nothing from them. -/
theorem Effect.apply_setCounters (e : Effect) : e.apply (setCounters k n s) = setCounters k n (e.apply s) := by
  cases e with
  | dispatch => exact congrArg advance (dispatchExtensions_setCounters s k n)
  | _ => rfl

/-- A run of one instruction is the same for all counters, the counters aside. -/
theorem exec_setCounters (i : Instr) : Related SameButCounters (exec i s) (exec i (setCounters k n s)) := by
  rw [exec_eq, exec_eq, effect_setCounters, Effect.apply_setCounters]
  rfl

end Readers

/-- Settles O22: only counting at the end writes the counters, and neither half of an instruction reads them. -/
theorem countersCountAndAreInvisible : Obligations.CountersCountAndAreInvisible :=
  ⟨fun _ _ _ h => ⟨exec_instructionCounter h, exec_tickCounter h⟩, fun i s k n => exec_setCounters s k n i⟩

/-! ### The bus value -/

/-- The formula of 20_memory.md R56: the page and the address within it do not overlap. -/
theorem eaCache_toNat_shifts (s : State) (x : Byte) : (eaCache s x).toNat = (s.cachePage.toNat <<< 8) ||| x.toNat :=
  BitVec.toNat_append s.cachePage x

theorem busValue_of_paged {i : Instr} (hm : i.memFlag = true) (hop : i.opcode ≠ opc .sra) (s : State) :
    busValue i s = readCache s (eaCache s i.data) := by
  simp [busValue_eq, isStore, hm, hop]

theorem busValue_of_immediate {i : Instr} (h : ¬ (i.memFlag = true ∧ i.opcode ≠ opc .sra)) (s : State) :
    busValue i s = i.data := by
  rw [busValue_eq, if_neg]
  simpa [isStore] using h

/-- Settles O7: a paged operand is read at the translated address, any other is the data field. -/
theorem busValueIsFieldOrPagedCell : Obligations.BusValueIsFieldOrPagedCell := by
  intro i s
  split
  · next h =>
    obtain ⟨hm, hop⟩ := h
    rw [busValue_of_paged hm hop, readCache, eaCache_toNat_shifts]
    rfl
  · next h => rw [busValue_of_immediate h]

/-! ### The guard -/

theorem pcInRange_iff (s : State) : pcInRange s = true ↔ s.pc < Config.romWords := by
  refine ⟨pc_lt_of_pcInRange, fun hpc => decide_eq_true ?_⟩
  change s.pc < 65536 at hpc
  change 2 * s.pc + 1 < 131072
  omega

/-- No bit of the interrupt register is set exactly when each part of it is 0. -/
theorem InterruptRegister.isSet_eq_false_iff (r : InterruptRegister) : r.isSet = false ↔
    r = { halted := false, interruptPending := false, illegalInstruction := false, reserved := 0 } := by
  obtain ⟨halted, pending, illegal, reserved⟩ := r
  simp [isSet, and_assoc]

theorem InterruptRegister.isSet_eq_true_iff (r : InterruptRegister) : r.isSet = true ↔
    r.halted = true ∨ r.interruptPending = true ∨ r.illegalInstruction = true ∨ r.reserved ≠ 0 := by
  simp [isSet, or_assoc]

section Step
variable {s : State}

/-- Every instruction answers a next state, so the guard alone decides whether there is a step. -/
theorem exists_step_iff : (∃ t, step s = .next t) ↔ runGuard s = none := by
  cases hg : runGuard s with
  | none => simp [step, hg, exec_eq]
  | some f => simp [step, hg]

theorem step_of_guard_clear (hclear : s.interruptRegister.isSet = false) (hstop : s.stopRequested = false)
    (hpc : s.pc < Config.romWords) : step s = exec (decodeWord (fetchWord s)) s := by
  simp only [step, (runGuard_eq_none s).2 ⟨hclear, hstop, (pcInRange_iff s).2 hpc⟩]

theorem step_of_isSet (h : s.interruptRegister.isSet = true) : step s = .fault (stopReason s) := by
  simp [step, runGuard, h]

theorem step_of_pc_outOfRange (hclear : s.interruptRegister.isSet = false) (hstop : s.stopRequested = false)
    (hpc : ¬ s.pc < Config.romWords) : step s = .fault .programCounterOverflow := by
  have hrange : pcInRange s = false := by rwa [← Bool.not_eq_true, pcInRange_iff]
  simp [step, runGuard, hclear, hstop, hrange]

/-- A poll neither clears a bit nor changes the reported condition, so a set bit ends the run at once. -/
theorem executeWhole_of_isSet (h : s.interruptRegister.isSet = true) (asked : Bool) (polls : List Bool) :
    executeWhole (asked :: polls) s = .stopped (stopReason s) (clearStopRequest s) :=
  executeWhole_cons_fault (step_of_isSet (s := pollHost asked s) h) polls

/-- A run that nobody asks to stop ends where the step does, with the state as it was. -/
theorem executeWhole_of_fault {f : Fault} (hstop : s.stopRequested = false) (h : step s = .fault f)
    (polls : List Bool) : executeWhole (false :: polls) s = .stopped f s := by
  rw [executeWhole_cons_fault ((congrArg step (pollHost_false s)).trans h), clearStopRequest_of_not hstop]

end Step

/-- Settles O12: the guard's three conditions, of which the stop request is excluded. -/
theorem stepExistsExactlyWhenNotTerminal : Obligations.StepExistsExactlyWhenNotTerminal := by
  intro s hstop
  rw [exists_step_iff, runGuard_eq_none, pcInRange_iff, not_or, Bool.not_eq_true, Nat.not_le]
  simp only [hstop, true_and]

/-- Settles O8: the bytes that are decoded are those of the fetched word. -/
theorem stepRunsDecodedInstruction : Obligations.StepRunsDecodedInstruction := by
  intro s i hdecode hclear hstop hpc
  have hword : decodeWord (fetchWord s) = i := congrArg Prod.fst (Except.ok.inj hdecode)
  rw [step_of_guard_clear hclear hstop hpc, hword]

/-- Settles O9: the guard comes first, and the host's poll does not touch what it reads. -/
theorem setInterruptRegisterHasNoStep : Obligations.SetInterruptRegisterHasNoStep := by
  refine ⟨fun s t h => ?_, fun s h => ?_⟩
  · obtain ⟨hclear, -⟩ := step_next h
    exact s.interruptRegister.isSet_eq_false_iff.1 hclear
  · have hset := s.interruptRegister.isSet_eq_true_iff.2 h
    exact ⟨stopReason s, step_of_isSet hset, executeWhole_of_isSet hset⟩

/-- Settles O10: a word beyond the store faults before the fetch, and the last word is inside it. -/
theorem wordBeyondTheStoreIsNotFetched : Obligations.WordBeyondTheStoreIsNotFetched := by
  intro s hclear hstop
  refine ⟨fun hbeyond => ?_, fun hlast => ?_⟩
  · have hpc : ¬ s.pc < Config.romWords := by
      change 131072 ≤ 2 * s.pc + 1 at hbeyond
      change ¬ s.pc < 65536
      omega
    have hfault := step_of_pc_outOfRange hclear hstop hpc
    exact ⟨hfault, executeWhole_of_fault hstop hfault⟩
  · exact step_of_guard_clear hclear hstop (hlast ▸ by decide)

end Sys2Proof.Machine

/-! PROOFS. What an instruction leaves unchanged: one rule `Keeps` per operation, from these the exact frame of every effect,
and so of every instruction (40_decoder.md R101). -/

namespace Sys2Proof.Machine

open Sys2Proof.Safety

/-! ### The frame of one operation -/

/-- At most the listed components and the listed memory cells differ. -/
def Keeps (parts : List Component) (cells : List (Space × Nat)) (s t : State) : Prop :=
  (∀ p, p ∉ parts → p.same s t) ∧ ∀ sp a, (sp, a) ∉ cells → peek sp t a = peek sp s a

section KeepsRules
variable {parts : List Component} {cells : List (Space × Nat)} {s t : State}

theorem same_trans {p : Component} {u : State} (h : p.same s t) (h' : p.same t u) : p.same s u := by
  cases p <;> exact h'.trans h

theorem Keeps.trans {u : State} (h : Keeps parts cells s t) (h' : Keeps parts cells t u) : Keeps parts cells s u := by
  obtain ⟨hparts, hcells⟩ := h
  obtain ⟨hparts', hcells'⟩ := h'
  exact ⟨fun p hp => same_trans (hparts p hp) (hparts' p hp), fun sp a ha => (hcells' sp a ha).trans (hcells sp a ha)⟩

/-- A change of one component and of listed cells. -/
theorem keeps_of_component {c : Component} (hc : c ∈ parts) (hsame : ∀ p, p ≠ c → p.same s t)
    (hpeek : ∀ sp a, (sp, a) ∉ cells → peek sp t a = peek sp s a) : Keeps parts cells s t :=
  ⟨fun p hp => hsame p fun hpc => hp (hpc ▸ hc), hpeek⟩

/-- A write to a listed cell leaves every cell that is not listed. -/
theorem read_write_of_notMem {w : Nat} {m : Memory w} {sp : Space} {a b : Nat} (v : BitVec w) (ha : (sp, a) ∈ cells)
    (hb : (sp, b) ∉ cells) : ((m.write a v).read b).toNat = (m.read b).toNat :=
  congrArg BitVec.toNat (Memory.read_write_other m v fun hba => hb (hba ▸ ha))

theorem keeps_jumpTo (target : Nat) (hc : .pc ∈ parts) : Keeps parts cells s (jumpTo target s) := by
  refine keeps_of_component hc (fun p hp => ?_) (fun _ _ _ => rfl)
  cases p with
  | pc => exact absurd rfl hp
  | _ => rfl

theorem keeps_advance (hc : .pc ∈ parts) : Keeps parts cells s (advance s) := keeps_jumpTo (s.pc + 1) hc

theorem keeps_setAcc (v : Byte) (hc : .acc ∈ parts) : Keeps parts cells s (setAcc v s) := by
  refine keeps_of_component hc (fun p hp => ?_) (fun _ _ _ => rfl)
  cases p with
  | acc => exact absurd rfl hp
  | _ => rfl

theorem keeps_setCarry (c : Bool) (hc : .carryFlag ∈ parts) : Keeps parts cells s (setCarry c s) := by
  refine keeps_of_component hc (fun p hp => ?_) (fun _ _ _ => rfl)
  cases p with
  | carryFlag => exact absurd rfl hp
  | _ => rfl

theorem keeps_setCachePage (v : Byte) (hc : .cachePage ∈ parts) : Keeps parts cells s (setCachePage v s) := by
  refine keeps_of_component hc (fun p hp => ?_) (fun _ _ _ => rfl)
  cases p with
  | cachePage => exact absurd rfl hp
  | _ => rfl

theorem keeps_setRomPage (v : Byte) (hc : .romPage ∈ parts) : Keeps parts cells s (setRomPage v s) := by
  refine keeps_of_component hc (fun p hp => ?_) (fun _ _ _ => rfl)
  cases p with
  | romPage => exact absurd rfl hp
  | _ => rfl

theorem keeps_dropAcc (hc : .accStackPointer ∈ parts) : Keeps parts cells s (dropAcc s) := by
  refine keeps_of_component hc (fun p hp => ?_) (fun _ _ _ => rfl)
  cases p with
  | accStackPointer => exact absurd rfl hp
  | _ => rfl

theorem keeps_dropAdr (hc : .adrStackPointer ∈ parts) : Keeps parts cells s (dropAdr s) := by
  refine keeps_of_component hc (fun p hp => ?_) (fun _ _ _ => rfl)
  cases p with
  | adrStackPointer => exact absurd rfl hp
  | _ => rfl

theorem keeps_emit (e : HostEvent) (hc : .trace ∈ parts) : Keeps parts cells s (emit e s) := by
  refine keeps_of_component hc (fun p hp => ?_) (fun _ _ _ => rfl)
  cases p with
  | trace => exact absurd rfl hp
  | _ => rfl

theorem keeps_countDraw (hc : .draws ∈ parts) : Keeps parts cells s (countDraw s) := by
  refine keeps_of_component hc (fun p hp => ?_) (fun _ _ _ => rfl)
  cases p with
  | draws => exact absurd rfl hp
  | _ => rfl

theorem keeps_raise (f : Fault) (hr : .interruptRegister ∈ parts) (he : .ended ∈ parts) :
    Keeps parts cells s (raise f s) := by
  refine ⟨fun p hp => ?_, fun _ _ _ => rfl⟩
  cases p with
  | interruptRegister => exact absurd hr hp
  | ended => exact absurd he hp
  | _ => rfl

theorem keeps_pushAcc (v : Byte) (hc : .accStackPointer ∈ parts) (hcell : (.astack, s.accStackPointer.toNat) ∈ cells) :
    Keeps parts cells s (pushAcc v s) := by
  refine keeps_of_component hc (fun p hp => ?_) (fun sp a ha => ?_)
  · cases p with
    | accStackPointer => exact absurd rfl hp
    | _ => rfl
  · cases sp with
    | astack => exact read_write_of_notMem v hcell ha
    | _ => rfl

theorem keeps_pushAdr (v : Nat) (hc : .adrStackPointer ∈ parts) (hcell : (.dstack, s.adrStackPointer.toNat) ∈ cells) :
    Keeps parts cells s (pushAdr v s) := by
  refine keeps_of_component hc (fun p hp => ?_) (fun sp a ha => ?_)
  · cases p with
    | adrStackPointer => exact absurd rfl hp
    | _ => rfl
  · cases sp with
    | dstack => exact read_write_of_notMem _ hcell ha
    | _ => rfl

theorem keeps_writeCache (a : Word16) (v : Byte) (hcell : (.cache, a.toNat) ∈ cells) :
    Keeps parts cells s (writeCache a v s) := by
  refine ⟨fun p _ => ?_, fun sp b hb => ?_⟩
  · cases p <;> rfl
  · cases sp with
    | cache => exact read_write_of_notMem v hcell hb
    | _ => rfl

theorem keeps_writePort (a v : Byte) (hcell : (.ports, a.toNat) ∈ cells) : Keeps parts cells s (writePort a v s) := by
  refine ⟨fun p _ => ?_, fun sp b hb => ?_⟩
  · cases p <;> rfl
  · cases sp with
    | ports => exact read_write_of_notMem v hcell hb
    | _ => rfl

end KeepsRules

/-! ### The frame of one instruction -/

/-- The components an effect writes. -/
def Effect.parts : Effect → List Component
  | .nothing => [.pc]
  | .acc _ => [.acc, .pc]
  | .carry _ => [.carryFlag, .pc]
  | .accCarry _ => [.acc, .carryFlag, .pc]
  | .jump _ => [.pc]
  | .call _ => [.pc, .adrStackPointer]
  | .ret _ => [.pc, .adrStackPointer, .acc]
  | .cachePage _ => [.cachePage, .pc]
  | .romPage _ => [.romPage, .pc]
  | .cache _ _ => [.pc]
  | .port _ _ => [.pc]
  | .push _ => [.pc, .accStackPointer]
  | .pop => [.pc, .acc, .accStackPointer]
  | .input _ => [.acc, .pc, .draws]
  | .output _ => [.pc, .trace]
  | .dispatch => [.pc, .interruptRegister, .draws, .trace]
  | .raise _ => [.interruptRegister, .ended]

/-- The memory cells an effect writes, the dispatcher's aside, which its extensions choose. -/
def Effect.cells (s : State) : Effect → List (Space × Nat)
  | .call _ => [(.dstack, s.adrStackPointer.toNat)]
  | .cache a _ => [(.cache, a.toNat)]
  | .port a _ => [(.ports, a.toNat)]
  | .push _ => [(.astack, s.accStackPointer.toNat)]
  | _ => []

/-- An effect writes nothing outside its lists: each of its operations writes inside them. -/
theorem Effect.apply_keeps {e : Effect} (he : e ≠ .dispatch) (s : State) :
    Keeps e.parts (e.cells s) s (e.apply s) := by
  cases e with
  | nothing => exact keeps_advance (by simp [parts])
  | acc v => exact (keeps_setAcc v (by simp [parts])).trans (keeps_advance (by simp [parts]))
  | carry c => exact (keeps_setCarry c (by simp [parts])).trans (keeps_advance (by simp [parts]))
  | accCarry p =>
    exact ((keeps_setAcc p.1 (by simp [parts])).trans (keeps_setCarry p.2 (by simp [parts]))).trans
      (keeps_advance (by simp [parts]))
  | jump target => exact keeps_jumpTo target (by simp [parts])
  | call target =>
    exact (keeps_pushAdr _ (by simp [parts]) (by simp [cells])).trans (keeps_jumpTo target (by simp [parts]))
  | ret v =>
    exact ((keeps_dropAdr (by simp [parts])).trans (keeps_jumpTo _ (by simp [parts]))).trans
      (keeps_setAcc v (by simp [parts]))
  | cachePage v => exact (keeps_setCachePage v (by simp [parts])).trans (keeps_advance (by simp [parts]))
  | romPage v => exact (keeps_setRomPage v (by simp [parts])).trans (keeps_advance (by simp [parts]))
  | cache a v => exact (keeps_writeCache a v (by simp [cells])).trans (keeps_advance (by simp [parts]))
  | port a v => exact (keeps_writePort a v (by simp [cells])).trans (keeps_advance (by simp [parts]))
  | push v =>
    exact (keeps_pushAcc v (by simp [parts]) (by simp [cells])).trans (keeps_advance (by simp [parts]))
  | pop =>
    exact ((keeps_dropAcc (by simp [parts])).trans (keeps_setAcc _ (by simp [parts]))).trans
      (keeps_advance (by simp [parts]))
  | input v =>
    exact ((keeps_setAcc v (by simp [parts])).trans (keeps_countDraw (by simp [parts]))).trans
      (keeps_advance (by simp [parts]))
  | output ev => exact (keeps_emit ev (by simp [parts])).trans (keeps_advance (by simp [parts]))
  | dispatch => exact absurd rfl he
  | raise f => exact keeps_raise f (by simp [parts]) (by simp [parts])

/-- Counting an instruction that left the counters alone adds exactly the counters to what may differ. -/
theorem Keeps.onlyChanges_countInstr {parts : List Component} {cells : List (Space × Nat)} {s t : State}
    (h : Keeps parts cells s t) (hticks : t.tickCounter = s.tickCounter)
    (hcount : t.instructionCounter = s.instructionCounter) (i : Instr) :
    OnlyChanges i parts cells s (countInstr i.opcode i.memFlag t) := by
  obtain ⟨hparts, hcells⟩ := h
  refine ⟨congrArg (· + _) hticks, congrArg (· + 1) hcount, fun p hpt hpi hp => ?_, hcells⟩
  have hsame := hparts p hp
  cases p with
  | tickCounter => exact absurd rfl hpt
  | instructionCounter => exact absurd rfl hpi
  | _ => exact hsame

/-- The frame of an instruction is the frame of its effect. -/
theorem onlyChanges_effect {i : Instr} {s : State} (h : effect i s ≠ .dispatch) :
    OnlyChanges i (effect i s).parts ((effect i s).cells s) s (countInstr i.opcode i.memFlag ((effect i s).apply s)) :=
  (Effect.apply_keeps h s).onlyChanges_countInstr (Effect.apply_tickCounter _ s) (Effect.apply_instructionCounter _ s) i

end Sys2Proof.Machine

/-! PROOFS. The control, data-move, paging and stack instructions (41_control.md). In each statement `exec_eq` names the next
state, whose fields are then those of the instruction's effect, and `onlyChanges_effect` gives the frame. -/

namespace Sys2Proof.Machine

open Sys2Proof.Safety

/-! ### Addresses as the statements write them -/

/-- The formula of 20_memory.md R57: the page and the word within it do not overlap. -/
theorem eaRom_eq_shifts (s : State) (x : Byte) : eaRom s x = (s.romPage.toNat <<< 8) ||| x.toNat :=
  BitVec.toNat_append s.romPage x

/-- A jump's target, its condition read as a proposition. -/
theorem jumpTarget_eq {c : Bool} {p : Prop} [Decidable p] (h : c = true ↔ p) (s : State) (b : Byte) :
    (if c then eaRom s b else s.pc + 1) = if p then (s.romPage.toNat <<< 8) ||| b.toNat else s.pc + 1 := by
  rw [eaRom_eq_shifts]
  exact if_congr h rfl rfl

/-- A stack pointer moves down by 1 modulo 256, without a negative number. -/
theorem stackPointer_sub_one_toNat (p : Byte) : (p - 1).toNat = (p.toNat + 255) % 256 := by
  have hsub : (p - 1).toNat = (255 + p.toNat) % 256 := BitVec.toNat_sub p 1
  omega

theorem topAcc_dropAcc_toNat (s : State) :
    (topAcc (dropAcc s)).toNat = peek .astack s ((s.accStackPointer.toNat + 255) % 256) := by
  rw [← stackPointer_sub_one_toNat]
  rfl

theorem topAdr_dropAdr_eq_peek (s : State) :
    topAdr (dropAdr s) = peek .dstack s ((s.adrStackPointer.toNat + 255) % 256) := by
  rw [← stackPointer_sub_one_toNat]
  rfl

theorem peek_cache_writeCache_same (a : Word16) (v : Byte) (s : State) :
    peek .cache (writeCache a v s) a.toNat = v.toNat :=
  congrArg BitVec.toNat (Memory.read_write_same s.dataBank a.toNat v)

theorem peek_ports_writePort_same (a v : Byte) (s : State) : peek .ports (writePort a v s) a.toNat = v.toNat :=
  congrArg BitVec.toNat (Memory.read_write_same s.ports a.toNat v)

/-! ### The instructions -/

/-- Settles O29. -/
theorem nopOnlyAdvances : Obligations.NopOnlyAdvances :=
  fun _ _ s => ⟨_, exec_eq _ s, rfl, onlyChanges_effect nofun⟩

/-- Settles O30: LRP's address is `EA_c` of the old accumulator, as a number. -/
theorem loadsWriteTheAccumulator : Obligations.LoadsWriteTheAccumulator := by
  refine fun m d s => ⟨?lra, ?lrp, ?prr⟩
  case lra => exact ⟨_, exec_eq _ s, rfl, rfl, onlyChanges_effect nofun⟩
  case lrp =>
    have hcell : (readCache s (eaCache s s.acc)).toNat = peek .cache s (256 * s.cachePage.toNat + s.acc.toNat) := by
      rw [← eaCache_toNat]
      rfl
    exact ⟨_, exec_eq _ s, hcell, rfl, onlyChanges_effect nofun⟩
  case prr => exact ⟨_, exec_eq _ s, rfl, rfl, onlyChanges_effect nofun⟩

/-- Settles O31: the link is written at the old pointer, and the target is `EA_r` of the bus value. -/
theorem callPushesAndJumps : Obligations.CallPushesAndJumps := fun _ _ s =>
  have hlink := (peek_dstack_pushAdr (callLink s) s s.adrStackPointer.toNat).trans (if_pos rfl)
  ⟨_, exec_eq _ s, hlink, BitVec.toNat_add _ 1, eaRom_eq_shifts s _, onlyChanges_effect nofun⟩

/-- Settles O32: the pop reads the entry below the pointer and writes no cell. -/
theorem retPopsAndLoads : Obligations.RetPopsAndLoads := fun _ _ s =>
  ⟨_, exec_eq _ s, topAdr_dropAdr_eq_peek s, stackPointer_sub_one_toNat _, rfl, onlyChanges_effect nofun⟩

/-- Settles O34: a jump goes where its condition says, and only the conditions differ. -/
theorem jumpsGoToTheirTarget : Obligations.JumpsGoToTheirTarget := by
  intro m d s
  have hnonzero : (s.acc != 0) = true ↔ s.acc.toNat ≠ 0 := by simp [← BitVec.toNat_inj]
  have hzero : (s.acc == 0) = true ↔ s.acc.toNat = 0 := by simp [← BitVec.toNat_inj]
  have hnegative : isNegative s.acc = true ↔ 128 ≤ s.acc.toNat := by rw [isNegative_iff, decide_eq_true_iff]
  refine ⟨?jmp, ?jmpp, ?jmpz, ?jmpn, ?jmpc⟩
  case jmp => exact ⟨_, exec_eq _ s, eaRom_eq_shifts s _, onlyChanges_effect nofun⟩
  case jmpp => exact ⟨_, exec_eq _ s, jumpTarget_eq hnonzero s _, onlyChanges_effect nofun⟩
  case jmpz => exact ⟨_, exec_eq _ s, jumpTarget_eq hzero s _, onlyChanges_effect nofun⟩
  case jmpn => exact ⟨_, exec_eq _ s, jumpTarget_eq hnegative s _, onlyChanges_effect nofun⟩
  case jmpc => exact ⟨_, exec_eq _ s, jumpTarget_eq Iff.rfl s _, onlyChanges_effect nofun⟩

/-- Settles O35. -/
theorem flagAndPageInstructions : Obligations.FlagAndPageInstructions := by
  refine fun m d s => ⟨?ccf, ?ccp, ?crp⟩
  case ccf => exact ⟨_, exec_eq _ s, rfl, rfl, onlyChanges_effect nofun⟩
  case ccp => exact ⟨_, exec_eq _ s, rfl, rfl, onlyChanges_effect nofun⟩
  case crp => exact ⟨_, exec_eq _ s, rfl, rfl, onlyChanges_effect nofun⟩

/-- Settles O36: the accumulator is written at the old pointer. -/
theorem pushStoresTheAccumulator : Obligations.PushStoresTheAccumulator := fun _ _ s =>
  have hentry := (peek_astack_pushAcc s.acc s s.accStackPointer.toNat).trans (if_pos rfl)
  ⟨_, exec_eq _ s, hentry, BitVec.toNat_add _ 1, rfl, onlyChanges_effect nofun⟩

/-- Settles O37: the pop reads the entry below the pointer and writes no cell. -/
theorem popLoadsTheAccumulator : Obligations.PopLoadsTheAccumulator := fun _ _ s =>
  ⟨_, exec_eq _ s, topAcc_dropAcc_toNat s, stackPointer_sub_one_toNat _, rfl, onlyChanges_effect nofun⟩

/-- Settles O53: the one cell written is read back, and the effect's frame names no other. -/
theorem storesWriteOneCell : Obligations.StoresWriteOneCell := by
  refine fun m d s => ⟨?sra, ?prw⟩
  case sra =>
    exact ⟨_, exec_eq _ s, peek_cache_writeCache_same (eaCache s d) s.acc s, eaCache_toNat_shifts s d, rfl,
      onlyChanges_effect nofun⟩
  case prw => exact ⟨_, exec_eq _ s, peek_ports_writePort_same d s.acc s, rfl, onlyChanges_effect nofun⟩

/-! ### Pushing and popping many values -/

/-- The state with one entry of the accumulator stack replaced, the pointer as it was. -/
def writeAccEntry (p v : Byte) (s : State) : State := { s with accStack := s.accStack.write p.toNat v }

/-- Dropping a pushed value leaves it behind, at the pointer. -/
theorem dropAcc_pushAcc (v : Byte) (s : State) : dropAcc (pushAcc v s) = writeAccEntry s.accStackPointer v s := by
  simp [dropAcc, pushAcc, writeAccEntry]

theorem topAcc_writeAccEntry {p : Byte} {s : State} (h : s.accStackPointer ≠ p) (v : Byte) :
    topAcc (writeAccEntry p v s) = topAcc s :=
  Memory.read_write_other s.accStack v fun hp => h (BitVec.eq_of_toNat_eq hp)

/-- `n` pops do not see an entry that lies `n` or more entries below the first one they read. -/
theorem popAll_writeAccEntry (p v : Byte) (n : Nat) (s : State) (h : n ≤ (s.accStackPointer - 1 - p).toNat) :
    (popAll n (writeAccEntry p v s)).1 = (popAll n s).1 := by
  induction n generalizing s with
  | zero => rfl
  | succ n ih =>
    have hne : (dropAcc s).accStackPointer ≠ p := by
      rintro rfl
      simp at h
    have hbelow : n ≤ ((dropAcc s).accStackPointer - 1 - p).toNat := by
      rw [dropAcc_accStackPointer]
      bv_omega
    change topAcc (writeAccEntry p v (dropAcc s)) :: (popAll n (writeAccEntry p v (dropAcc s))).1 = _
    rw [topAcc_writeAccEntry hne, ih _ hbelow]
    rfl

/-- The values pushed one after another. -/
def pushAll (vs : List Byte) (s : State) : State := vs.foldl (fun s v => pushAcc v s) s

theorem pushAll_concat (vs : List Byte) (v : Byte) (s : State) : pushAll (vs ++ [v]) s = pushAcc v (pushAll vs s) :=
  List.foldl_concat ..

theorem popAll_succ_pushAcc (n : Nat) (v : Byte) (s : State) :
    popAll (n + 1) (pushAcc v s) = (v :: (popAll n (writeAccEntry s.accStackPointer v s)).1,
      (popAll n (writeAccEntry s.accStackPointer v s)).2) := by
  rw [popAll, topAcc_dropAcc_pushAcc, dropAcc_pushAcc]

/-- The last value pushed is the first popped; what it leaves in the stack is out of sight of the at most 255 other pops. -/
theorem popAll_pushAll (vs : List Byte) (s : State) (h : vs.length ≤ 256) :
    (popAll vs.length (pushAll vs s)).1 = vs.reverse := by
  induction vs using List.reverseRecOn with
  | nil => rfl
  | append_singleton vs v ih =>
    rw [List.length_append, List.length_singleton] at h ⊢
    have hfar : vs.length ≤ ((pushAll vs s).accStackPointer - 1 - (pushAll vs s).accStackPointer).toNat := by
      bv_omega
    rw [pushAll_concat, popAll_succ_pushAcc, popAll_writeAccEntry _ v _ _ hfar, ih (by omega), List.reverse_concat]

theorem popAll_accStackPointer (n : Nat) (s : State) :
    (popAll n s).2.accStackPointer = s.accStackPointer - BitVec.ofNat 8 n := by
  induction n generalizing s with
  | zero => exact (BitVec.sub_zero _).symm
  | succ n ih =>
    calc (popAll n (dropAcc s)).2.accStackPointer
        = s.accStackPointer - 1 - BitVec.ofNat 8 n := ih (dropAcc s)
      _ = s.accStackPointer - BitVec.ofNat 8 (n + 1) := by bv_omega

theorem pushAll_accStackPointer (vs : List Byte) (s : State) :
    (pushAll vs s).accStackPointer = s.accStackPointer + BitVec.ofNat 8 vs.length := by
  induction vs generalizing s with
  | nil => exact (BitVec.add_zero _).symm
  | cons v vs ih =>
    calc (pushAll vs (pushAcc v s)).accStackPointer
        = s.accStackPointer + 1 + BitVec.ofNat 8 vs.length := ih (pushAcc v s)
      _ = s.accStackPointer + BitVec.ofNat 8 (vs.length + 1) := by bv_omega

/-- Settles O27: the values by induction on the last push, the pointer because it moves up and down by the same number. -/
theorem pushesThenPopsReverse : Obligations.PushesThenPopsReverse := by
  refine fun s vs h => ⟨popAll_pushAll vs s h, ?_⟩
  calc (popAll vs.length (pushAll vs s)).2.accStackPointer
      = s.accStackPointer + BitVec.ofNat 8 vs.length - BitVec.ofNat 8 vs.length := by
        rw [popAll_accStackPointer, pushAll_accStackPointer]
    _ = s.accStackPointer := BitVec.add_sub_cancel _ _

end Sys2Proof.Machine

/-! PROOFS. The logic, shift and compare instructions (42_logic.md). Each computation is first put in the terms of the
statements (bits, powers of two, integer order). As before, `exec_eq` names the next state and `onlyChanges_effect` gives the
frame. -/

namespace Sys2Proof.Machine

open Sys2Proof.Safety

/-! ### The complement -/

/-- The two spellings of R133: `255 - acc` is the bitwise complement. -/
theorem complement_eq_not (a : Byte) : complement a = ~~~a :=
  BitVec.eq_of_toNat_eq ((complement_value a).trans (BitVec.toNat_not (x := a)).symm)

theorem complement_getLsbD (a : Byte) {k : Nat} (hk : k < 8) : (complement a).getLsbD k = !a.getLsbD k := by
  rw [complement_eq_not, BitVec.getLsbD_not, decide_eq_true hk, Bool.true_and]

/-! ### The shifts through carry -/

/-- A count of 8 or more moves every bit of the accumulator above bit 7. -/
theorem shiftLeft_eq_mul_256 (n : Nat) {k : Nat} (hk : 8 ≤ k) : n <<< k = 256 * (n <<< (k - 8)) := by
  rw [Nat.mul_comm]
  calc n <<< k
      = n <<< (k - 8 + 8) := by rw [Nat.sub_add_cancel hk]
    _ = (n <<< (k - 8)) * 256 := by rw [Nat.shiftLeft_add, Nat.shiftLeft_eq _ 8]

/-- With a count of 8 or more the carry-in overlaps no bit of the accumulator. -/
theorem shiftLeft_or_carry (n : Nat) {k : Nat} (hk : 8 ≤ k) (cin : Bool) :
    (n <<< k) ||| cin.toNat = 256 * (n <<< (k - 8)) + cin.toNat := by
  have hcin : cin.toNat < 2 ^ 8 := Nat.lt_of_le_of_lt cin.toNat_le (by decide)
  rw [shiftLeft_eq_mul_256 n hk]
  exact (Nat.two_pow_add_eq_or_of_lt hcin _).symm

/-- R134's corner case: a count of 8 or more leaves only the carry-in. -/
theorem shiftLeftCarry_value_of_le {a b : Byte} (hb : 8 ≤ b.toNat) (cin : Bool) :
    (shiftLeftCarry a b cin).1.toNat = cin.toNat := by
  have hcin := cin.toNat_le
  rw [shiftLeftCarry_value, shiftLeft_or_carry _ hb]
  omega

/-- R134's corner case: at a count of 8 or more every set bit of the accumulator is lost past bit 7. -/
theorem shiftLeftCarry_carry_of_le {a b : Byte} (hb : 8 ≤ b.toNat) (cin : Bool) :
    (shiftLeftCarry a b cin).2 = decide (a.toNat ≠ 0) := by
  have hcin := cin.toNat_le
  have hzero : a.toNat <<< (b.toNat - 8) = 0 ↔ a.toNat = 0 := Nat.shiftLeft_eq_zero_iff
  rw [shiftLeftCarry_carry, shiftLeft_or_carry _ hb, decide_eq_decide]
  omega

/-- No shift count of 8 or more leaves a bit of a byte inside it. -/
theorem byte_lt_two_pow (a : Byte) {k : Nat} (hk : 8 ≤ k) : a.toNat < 2 ^ k :=
  Nat.lt_of_lt_of_le a.isLt (Nat.pow_le_pow_right (by decide) hk)

theorem shiftRightCarry_value_eq_div (a b : Byte) (cin : Bool) :
    (shiftRightCarry a b cin).1.toNat = ((a.toNat / 2 ^ b.toNat) ||| (128 * cin.toNat)) % 256 := by
  rw [shiftRightCarry_value, Nat.shiftRight_eq_div_pow, Nat.shiftLeft_eq, Nat.mul_comm cin.toNat]

/-- R135's corner case: a count of 8 or more leaves only the carry-in, at bit 7. -/
theorem shiftRightCarry_value_of_le {a b : Byte} (hb : 8 ≤ b.toNat) (cin : Bool) :
    (shiftRightCarry a b cin).1.toNat = 128 * cin.toNat := by
  have hcin := cin.toNat_le
  rw [shiftRightCarry_value_eq_div, Nat.div_eq_of_lt (byte_lt_two_pow a hb), Nat.zero_or]
  omega

/-- R135's corner case: at a count of 8 or more the whole accumulator is shifted out. -/
theorem shiftRightCarry_carry_of_le {a b : Byte} (hb : 8 ≤ b.toNat) (cin : Bool) :
    (shiftRightCarry a b cin).2 = decide (a.toNat ≠ 0) := by
  rw [shiftRightCarry_carry, Nat.mod_eq_of_lt (byte_lt_two_pow a hb)]

/-! ### The signed comparison -/

/-- The two's-complement reading takes 256 from a number whose sign bit is set. -/
theorem toInt_eq_sub_isNegative (a : Byte) : a.toInt = (a.toNat : Int) - 256 * (isNegative a).toNat := by
  rw [isNegative_iff, BitVec.toInt_eq_toNat_cond]
  by_cases h : 128 ≤ a.toNat
  · rw [if_neg (by omega), decide_eq_true h]
    rfl
  · rw [if_pos (by omega), decide_eq_false h]
    exact (Int.sub_zero _).symm

theorem isNegative_eq_toInt_neg (a : Byte) : isNegative a = decide (a.toInt < 0) := by
  rw [isNegative_iff, decide_eq_decide, BitVec.toInt_neg_iff]
  omega

/-- Between numbers of one sign the signed comparison is the unsigned one (42_logic.md R136). -/
theorem compareSigned_of_isNegative_eq {a b : Byte} (h : isNegative a = isNegative b) :
    compareSigned a b = compareUnsigned a b := by
  have hbit : (a.getLsbD 7 != b.getLsbD 7) = false := bne_eq_false_iff_eq.2 h
  simp only [compareSigned, hbit, Bool.false_eq_true, if_false]

/-- Of two numbers of different signs the negative one is the larger when read unsigned. -/
theorem compareUnsigned_of_isNegative_ne {a b : Byte} (h : isNegative a ≠ isNegative b) :
    compareUnsigned a b = if isNegative a then 1 else 255 := by
  simp only [isNegative_iff, ne_eq, decide_eq_decide] at h
  simp only [isNegative_iff, decide_eq_true_eq, compareUnsigned]
  by_cases ha : 128 ≤ a.toNat
  · rw [if_pos ha, if_pos (by omega)]
  · rw [if_neg ha, if_neg (by omega), if_neg (by omega)]

/-- The inversion of R136: of two numbers of different signs the negative one is less. -/
theorem compareSigned_of_isNegative_ne {a b : Byte} (h : isNegative a ≠ isNegative b) :
    compareSigned a b = if isNegative a then 255 else 1 := by
  have hbit : (a.getLsbD 7 != b.getLsbD 7) = true := bne_iff_ne.2 h
  simp only [compareSigned, hbit, if_true, compareUnsigned_of_isNegative_ne h]
  cases isNegative a <;> rfl

/-- R136's derived reading: the result follows the order of the two's-complement readings. -/
theorem compareSigned_value (a b : Byte) : (compareSigned a b).toNat =
    if b.toInt < a.toInt then 1 else if a.toInt = b.toInt then 0 else 255 := by
  by_cases h : isNegative a = isNegative b
  · have hlt : b.toInt < a.toInt ↔ b.toNat < a.toNat := by
      rw [toInt_eq_sub_isNegative a, toInt_eq_sub_isNegative b, h]
      omega
    have heq : a.toInt = b.toInt ↔ a.toNat = b.toNat := BitVec.toInt_inj.trans BitVec.toNat_inj.symm
    rw [compareSigned_of_isNegative_eq h, compareUnsigned_value]
    simp only [hlt, heq]
  · rw [compareSigned_of_isNegative_ne h]
    simp only [isNegative_eq_toInt_neg, decide_eq_decide] at h
    simp only [isNegative_eq_toInt_neg, decide_eq_true_eq]
    by_cases ha : a.toInt < 0
    · rw [if_pos ha, if_neg (by omega), if_neg (by omega)]
      rfl
    · rw [if_neg ha, if_pos (by omega)]
      rfl

/-! ### The instructions -/

/-- Settles O38: a bit of the result is the operation on the bits of the operands. -/
theorem logicActsBitwise : Obligations.LogicActsBitwise := by
  refine fun m d s => ⟨?and, ?or, ?xor, ?not⟩
  case and => exact ⟨_, exec_eq _ s, rfl, onlyChanges_effect nofun, fun _ _ => BitVec.getLsbD_and⟩
  case or => exact ⟨_, exec_eq _ s, rfl, onlyChanges_effect nofun, fun _ _ => BitVec.getLsbD_or⟩
  case xor => exact ⟨_, exec_eq _ s, rfl, onlyChanges_effect nofun, fun _ _ => BitVec.getLsbD_xor⟩
  case not => exact ⟨_, exec_eq _ s, rfl, onlyChanges_effect nofun, fun _ hk => complement_getLsbD s.acc hk⟩

/-- Settles O39: the product is the shift the model computes, and a count of 8 or more has lemmas of its own. -/
theorem lscShiftsLeftThroughCarry : Obligations.LscShiftsLeftThroughCarry := by
  intro m d s
  rw [← Nat.shiftLeft_eq]
  exact ⟨_, exec_eq _ s, shiftLeftCarry_value .., shiftLeftCarry_carry ..,
    fun hb => ⟨shiftLeftCarry_value_of_le hb _, shiftLeftCarry_carry_of_le hb _⟩, rfl, onlyChanges_effect nofun⟩

/-- Settles O40: the quotient is the shift the model computes, and a count of 8 or more has lemmas of its own. -/
theorem rscShiftsRightThroughCarry : Obligations.RscShiftsRightThroughCarry := fun _ _ s =>
  ⟨_, exec_eq _ s, shiftRightCarry_value_eq_div .., shiftRightCarry_carry _ _ s.carryFlag,
    fun hb => ⟨shiftRightCarry_value_of_le hb _, shiftRightCarry_carry_of_le hb s.carryFlag⟩, rfl, onlyChanges_effect nofun⟩

/-- Settles O41: the signed order by cases on the two signs, the unsigned one by definition. -/
theorem comparisonsFollowTheirOrder : Obligations.ComparisonsFollowTheirOrder := by
  refine fun m d s => ⟨?cmp, ?cmpu⟩
  case cmp => exact ⟨_, exec_eq _ s, rfl, onlyChanges_effect nofun, compareSigned_value ..⟩
  case cmpu => exact ⟨_, exec_eq _ s, rfl, onlyChanges_effect nofun, compareUnsigned_value ..⟩

end Sys2Proof.Machine

/-! PROOFS. The arithmetic instructions (43_arithmetic.md). Each computation is first put in the terms of the statements (the
exact sum, difference, product, quotient). As before, `exec_eq` names the next state and `onlyChanges_effect` gives the frame. -/

namespace Sys2Proof.Machine

open Sys2Proof.Safety

/-! ### The computations -/

/-- R150: the carry is the bit of the sum that the byte has no room for. -/
theorem addCarry_exact (a b : Byte) (cin : Bool) :
    (addCarry a b cin).1.toNat + 256 * (addCarry a b cin).2.toNat = a.toNat + b.toNat + cin.toNat := by
  have ha := a.isLt
  have hb := b.isLt
  have hcin := cin.toNat_le
  rw [addCarry_value, addCarry_carry]
  by_cases h : 255 < a.toNat + b.toNat + cin.toNat
  · rw [decide_eq_true h, Bool.toNat_true]
    omega
  · rw [decide_eq_false h, Bool.toNat_false]
    omega

/-- R150: the borrow is the 256 that the difference lacks. -/
theorem subBorrow_exact (a b : Byte) (cin : Bool) :
    (subBorrow a b cin).1.toNat + b.toNat + cin.toNat = a.toNat + 256 * (subBorrow a b cin).2.toNat := by
  have ha := a.isLt
  have hb := b.isLt
  have hcin := cin.toNat_le
  have hvalue := subBorrow_value a b cin
  rw [subBorrow_carry]
  by_cases h : a.toNat < b.toNat + cin.toNat
  · rw [decide_eq_true h, Bool.toNat_true]
    omega
  · rw [decide_eq_false h, Bool.toNat_false]
    omega

/-- R155: negation modulo 256 reaches every absolute value but 128, which has no signed reading. -/
theorem absolute_toInt {a : Byte} (h : a.toNat ≠ 128) : (absolute a).toInt = |a.toInt| := by
  have ha := a.isLt
  rw [BitVec.toInt_eq_toNat_cond, BitVec.toInt_eq_toNat_cond, absolute_value]
  by_cases hneg : 128 ≤ a.toNat
  · rw [if_pos hneg, if_pos (by omega), if_neg (by omega), abs_of_neg (by omega)]
    omega
  · rw [if_neg hneg, if_pos (by omega)]
    exact (Nat.abs_cast _).symm

theorem absolute_of_eq_128 {a : Byte} (h : a.toNat = 128) : (absolute a).toNat = 128 := by
  rw [absolute_value, h]
  rfl

/-- R150: the two bytes of the product are its quotient and its remainder by 256. -/
theorem productHigh_productLow (a b : Byte) :
    256 * (productHigh a b).toNat + (productLow a b).toNat = a.toNat * b.toNat := by
  rw [productHigh_value, productLow_value]
  exact Nat.div_add_mod _ 256

theorem toNat_pos_of_ne_zero {b : Byte} (h : b ≠ 0) : 0 < b.toNat :=
  Nat.pos_of_ne_zero fun hzero => h (BitVec.eq_of_toNat_eq hzero)

/-! ### Division and its zero divisor -/

/-- What DIV does depends on its divisor alone (R158, R205). -/
theorem effect_div (m : Bool) (d : Byte) (s : State) : effect (.div m d) s =
    if busValue (.div m d) s = 0 then .raise .divideByZero else .acc (quotient s.acc (busValue (.div m d) s)) := rfl

/-- What MOD does depends on its divisor alone (R159, R205). -/
theorem effect_mod (m : Bool) (d : Byte) (s : State) : effect (.mod m d) s =
    if busValue (.mod m d) s = 0 then .raise .divideByZero else .acc (remainder s.acc (busValue (.mod m d) s)) := rfl

/-- The next state and its frame, for an instruction whose effect depends on what it reads. -/
theorem exec_of_effect {i : Instr} {s : State} {e : Effect} (h : effect i s = e) (he : e ≠ .dispatch) :
    exec i s = .next (countInstr i.opcode i.memFlag (e.apply s)) ∧
    OnlyChanges i e.parts (e.cells s) s (countInstr i.opcode i.memFlag (e.apply s)) := by
  subst h
  exact ⟨exec_eq i s, onlyChanges_effect he⟩

/-- 60_exceptions.md R209: an instruction that raises a condition with a bit of its own is the last one of the run. -/
theorem exec_raise {i : Instr} {s : State} {c : Fault} (h : effect i s = .raise c)
    (hbit : (markCondition c s.interruptRegister).isSet = true) :
    ∃ t, exec i s = .next t ∧ t.interruptRegister = markCondition c s.interruptRegister ∧
      OnlyChanges i [.interruptRegister, .ended] [] s t ∧ step t = .fault c := by
  obtain ⟨hnext, hframe⟩ := exec_of_effect h nofun
  exact ⟨_, hnext, rfl, hframe, step_of_isSet hbit⟩

theorem isSet_markCondition_divideByZero (r : InterruptRegister) : (markCondition .divideByZero r).isSet = true :=
  (InterruptRegister.isSet_eq_true_iff _).2 (.inr (.inr (.inl rfl)))

/-! ### The instructions -/

/-- Settles O42. -/
theorem additionsAndTheirCarry : Obligations.AdditionsAndTheirCarry := by
  refine fun m d s => ⟨?adc, ?add, ?inc⟩
  case adc => exact ⟨_, exec_eq _ s, rfl, onlyChanges_effect nofun, addCarry_exact ..⟩
  case add => exact ⟨_, exec_eq _ s, rfl, onlyChanges_effect nofun, addCarry_exact _ _ false⟩
  case inc => exact ⟨_, exec_eq _ s, rfl, onlyChanges_effect nofun, addCarry_exact _ 1 false⟩

/-- Settles O43. -/
theorem subtractionsAndTheirBorrow : Obligations.SubtractionsAndTheirBorrow := by
  refine fun m d s => ⟨?sbc, ?sub, ?dec⟩
  case sbc => exact ⟨_, exec_eq _ s, rfl, onlyChanges_effect nofun, subBorrow_exact ..⟩
  case sub => exact ⟨_, exec_eq _ s, rfl, onlyChanges_effect nofun, subBorrow_exact _ _ false⟩
  case dec => exact ⟨_, exec_eq _ s, rfl, onlyChanges_effect nofun, subBorrow_exact _ 1 false⟩

/-- Settles O44. -/
theorem absTakesTheAbsoluteValue : Obligations.AbsTakesTheAbsoluteValue := fun _ _ s =>
  ⟨_, exec_eq _ s, absolute_toInt, absolute_of_eq_128, rfl, onlyChanges_effect nofun⟩

/-- Settles O45: both instructions have the same bus value, so their bytes are those of one product. -/
theorem productBytes : Obligations.ProductBytes := by
  intro m d s
  have hproduct := productHigh_productLow s.acc (busValue (.mul m d) s)
  exact ⟨_, _, exec_eq _ s, exec_eq _ s, hproduct, hproduct, rfl, rfl, onlyChanges_effect nofun, onlyChanges_effect nofun⟩

/-- Settles O46. -/
theorem divisionByANonZeroDivisor : Obligations.DivisionByANonZeroDivisor := by
  refine fun m d s => ⟨fun hb => ?div, fun hb => ?mod⟩
  case div =>
    obtain ⟨hnext, hframe⟩ := exec_of_effect ((effect_div m d s).trans (if_neg hb)) nofun
    refine ⟨_, hnext, ?_, ?_, rfl, hframe⟩
    · exact (quotient_value ..).symm ▸ Nat.div_mul_le_self ..
    · exact (quotient_value ..).symm ▸ Nat.lt_mul_of_div_lt (Nat.lt_succ_self _) (toNat_pos_of_ne_zero hb)
  case mod =>
    obtain ⟨hnext, hframe⟩ := exec_of_effect ((effect_mod m d s).trans (if_neg hb)) nofun
    refine ⟨_, hnext, ?_, ⟨s.acc.toNat / (busValue (.mod m d) s).toNat, ?_⟩, rfl, hframe⟩
    · exact (remainder_value ..).symm ▸ Nat.mod_lt _ (toNat_pos_of_ne_zero hb)
    · exact (remainder_value ..).symm ▸ (Nat.div_add_mod ..).symm

/-- Settles O47: the guard on the divisor is the only choice either instruction makes. -/
theorem zeroDivisorEndsTheRun : Obligations.ZeroDivisorEndsTheRun := fun m d s =>
  have hbit := isSet_markCondition_divideByZero s.interruptRegister
  ⟨fun hb => exec_raise ((effect_div m d s).trans (if_pos hb)) hbit,
    fun hb => exec_raise ((effect_mod m d s).trans (if_pos hb)) hbit⟩

/-- Settles O48. -/
theorem waveLookups : Obligations.WaveLookups := fun _ _ s =>
  ⟨⟨_, exec_eq _ s, rfl, rfl, onlyChanges_effect nofun⟩, ⟨_, exec_eq _ s, rfl, rfl, onlyChanges_effect nofun⟩⟩

/-- Settles O50. -/
theorem reciprocalLookup : Obligations.ReciprocalLookup := by
  intro m d s
  have hvalue := reciprocal_value (busValue (.rpl m d) s)
  refine ⟨_, exec_eq _ s, fun hzero => hvalue.trans (if_pos hzero), fun hb => ?_, rfl, onlyChanges_effect nofun⟩
  have hquot := hvalue.trans (if_neg hb)
  constructor
  · exact hquot.symm ▸ Nat.div_mul_le_self ..
  · exact hquot.symm ▸ Nat.lt_mul_of_div_lt (Nat.lt_succ_self _) (Nat.pos_of_ne_zero hb)

end Sys2Proof.Machine

/-! PROOFS. The tables of TSE and TCE hold rounded sines and cosines (43_arithmetic.md R165, R166). One index is a turn by 1/32
radian; the Gaussian integer `waveStep` over 196608 is that turn up to 5e-8, so its n-th power is the turn of index n up to
n * 5e-8, near enough to decide every rounding by integer arithmetic. -/

namespace Sys2Proof.Machine

open Complex

/-! ### The turn of one index and its rational approximation -/

/-- The point of the unit circle at the angle of index 1. -/
noncomputable def waveTurn : ℂ := exp ((1 / 32 : ℝ) * I)

/-- The first four terms of the exponential series of `waveTurn`, over their common denominator 196608. -/
def waveStep : GaussianInt := ⟨196512, 6143⟩

theorem waveTurn_pow (n : ℕ) : waveTurn ^ n = exp ((n / 32 : ℝ) * I) := by
  rw [waveTurn, ← exp_nat_mul]
  push_cast
  ring_nf

theorem waveTurn_pow_re (n : ℕ) : (waveTurn ^ n).re = Real.cos (n / 32) := by
  rw [waveTurn_pow, exp_ofReal_mul_I_re]

theorem waveTurn_pow_im (n : ℕ) : (waveTurn ^ n).im = Real.sin (n / 32) := by
  rw [waveTurn_pow, exp_ofReal_mul_I_im]

theorem norm_waveTurn : ‖waveTurn‖ = 1 := norm_exp_ofReal_mul_I _

/-- The approximation lies in the unit disc, so its powers do not magnify its error. -/
theorem norm_waveStep_div_le : ‖(waveStep : ℂ) / 196608‖ ≤ 1 := by
  have hsq : ‖(waveStep : ℂ)‖ ^ 2 ≤ 196608 ^ 2 := by
    rw [Complex.sq_norm, Complex.normSq_apply]
    norm_num [waveStep]
  rw [norm_div, Complex.norm_ofNat, div_le_one (by norm_num)]
  exact le_of_sq_le_sq hsq (by norm_num)

theorem norm_waveTurn_sub_le : ‖waveTurn - waveStep / 196608‖ ≤ 1 / 20000000 := by
  have hI : ‖((1 / 32 : ℝ) * I : ℂ)‖ = 1 / 32 := by simp
  have hbound := exp_bound (hI.trans_le (by norm_num)) (n := 4) (by norm_num)
  have hsum : ∑ m ∈ Finset.range 4, ((1 / 32 : ℝ) * I) ^ m / m.factorial = (waveStep : ℂ) / 196608 := by
    apply Complex.ext <;> norm_num [Finset.sum_range_succ, Nat.factorial, waveStep, div_pow, pow_succ]
  rw [hsum, hI] at hbound
  refine hbound.trans ?_
  norm_num [Nat.factorial]

/-! ### The turn of every index -/

/-- Inside the unit disc the error of a power grows linearly. -/
theorem norm_pow_sub_pow_le {z w : ℂ} (hz : ‖z‖ ≤ 1) (hw : ‖w‖ ≤ 1) (n : ℕ) : ‖z ^ n - w ^ n‖ ≤ n * ‖z - w‖ := by
  induction n with
  | zero => simp
  | succ n ih =>
    calc ‖z ^ (n + 1) - w ^ (n + 1)‖
        = ‖z ^ n * (z - w) + (z ^ n - w ^ n) * w‖ := by ring_nf
      _ ≤ ‖z‖ ^ n * ‖z - w‖ + ‖z ^ n - w ^ n‖ * ‖w‖ := by
        rw [← norm_pow, ← norm_mul, ← norm_mul]
        exact norm_add_le _ _
      _ ≤ 1 * ‖z - w‖ + n * ‖z - w‖ * 1 := by
        gcongr
        exact pow_le_one₀ (norm_nonneg z) hz
      _ = (n + 1 : ℕ) * ‖z - w‖ := by push_cast; ring

theorem norm_waveTurn_pow_sub_le (n : ℕ) :
    ‖waveTurn ^ n - (waveStep ^ n : GaussianInt) / 196608 ^ n‖ ≤ n / 20000000 := by
  have hpow : ((waveStep ^ n : GaussianInt) : ℂ) / 196608 ^ n = (waveStep / 196608) ^ n := by
    rw [map_pow, div_pow]
  calc ‖waveTurn ^ n - (waveStep ^ n : GaussianInt) / 196608 ^ n‖
      = ‖waveTurn ^ n - (waveStep / 196608) ^ n‖ := by rw [hpow]
    _ ≤ n * ‖waveTurn - waveStep / 196608‖ := norm_pow_sub_pow_le norm_waveTurn.le norm_waveStep_div_le n
    _ ≤ n * (1 / 20000000) := by gcongr; exact norm_waveTurn_sub_le
    _ = n / 20000000 := by ring

theorem toComplex_div_re (g : GaussianInt) (n : ℕ) : ((g : ℂ) / 196608 ^ n).re = g.re / 196608 ^ n := by
  rw [GaussianInt.intCast_re]
  exact_mod_cast div_natCast_re (g : ℂ) (196608 ^ n)

theorem toComplex_div_im (g : GaussianInt) (n : ℕ) : ((g : ℂ) / 196608 ^ n).im = g.im / 196608 ^ n := by
  rw [GaussianInt.intCast_im]
  exact_mod_cast div_natCast_im (g : ℂ) (196608 ^ n)

theorem cos_sub_waveStep_re_le (n : ℕ) : |Real.cos (n / 32) - (waveStep ^ n).re / 196608 ^ n| ≤ n / 20000000 := by
  rw [← waveTurn_pow_re, ← toComplex_div_re, ← sub_re]
  exact (abs_re_le_norm _).trans (norm_waveTurn_pow_sub_le n)

theorem sin_sub_waveStep_im_le (n : ℕ) : |Real.sin (n / 32) - (waveStep ^ n).im / 196608 ^ n| ≤ n / 20000000 := by
  rw [← waveTurn_pow_im, ← toComplex_div_im, ← sub_im]
  exact (abs_im_le_norm _).trans (norm_waveTurn_pow_sub_le n)

/-! ### The rounding -/

/-- The entry `t` is the rounded `255 * (x + 1) / 2` for every `x` within `n / 20000000` of `v / 196608 ^ n`: the inequalities
`2 * t - 256 ≤ 255 * x < 2 * t - 254` times 4000000 and `196608 ^ n`, with `51 = 4000000 * 255 / 20000000`. -/
abbrev RoundsNumerator (t : Byte) (v : ℤ) (n : ℕ) : Prop :=
  (4000000 * (2 * t.toNat - 256) + 51 * n) * 196608 ^ n ≤ 1020000000 * v ∧
  1020000000 * v < (4000000 * (2 * t.toNat - 254) - 51 * n) * 196608 ^ n

theorem RoundsNumerator.eq_round {t : Byte} {v : ℤ} {n : ℕ} {c : ℝ} (h : RoundsNumerator t v n)
    (hc : |c - v / 196608 ^ n| ≤ n / 20000000) : (t.toNat : ℤ) = round (255 * (c + 1) / 2) := by
  obtain ⟨hlow, hhigh⟩ := h
  obtain ⟨hcl, hch⟩ := abs_le.1 hc
  have hscale : (0 : ℝ) < 196608 ^ n := by positivity
  have hlow' : (4000000 * (2 * t.toNat - 256) + 51 * n : ℝ) ≤ 1020000000 * v / 196608 ^ n := by
    rw [le_div_iff₀ hscale]
    exact_mod_cast hlow
  have hhigh' : 1020000000 * v / 196608 ^ n < (4000000 * (2 * t.toNat - 254) - 51 * n : ℝ) := by
    rw [div_lt_iff₀ hscale]
    exact_mod_cast hhigh
  rw [mul_div_assoc] at hlow' hhigh'
  rw [eq_comm, round_eq_iff, Set.mem_Ico, Int.cast_natCast]
  constructor <;> linarith

/-! ### The tables -/

/-- All entries, by row `q` and column `r`; the powers are split in the same way to keep the evaluation short. -/
theorem table_rows_round : ∀ q < 16, ∀ r < 16,
    RoundsNumerator (sinLut (BitVec.ofNat 8 (16 * q + r))) ((waveStep ^ 16) ^ q * waveStep ^ r).im (16 * q + r) ∧
    RoundsNumerator (cosLut (BitVec.ofNat 8 (16 * q + r))) ((waveStep ^ 16) ^ q * waveStep ^ r).re (16 * q + r) := by
  decide

theorem lut_rounds (i : Byte) :
    RoundsNumerator (sinLut i) (waveStep ^ i.toNat).im i.toNat ∧
    RoundsNumerator (cosLut i) (waveStep ^ i.toNat).re i.toNat := by
  have hi := i.isLt
  have h := table_rows_round (i.toNat / 16) (by omega) (i.toNat % 16) (by omega)
  rwa [← pow_mul, ← pow_add, Nat.div_add_mod, BitVec.ofNat_toNat, BitVec.setWidth_eq] at h

/-- Settles O49: each entry rounds the power of the approximation, with room for that power's error. -/
theorem waveTablesAreRoundedSines : Obligations.WaveTablesAreRoundedSines := fun i =>
  have ⟨hsin, hcos⟩ := lut_rounds i
  ⟨hsin.eq_round (sin_sub_waveStep_im_le _), hcos.eq_round (cos_sub_waveStep_re_le _)⟩

end Sys2Proof.Machine

/-! PROOFS. The console, the interrupt and the end of a run (44_io_system.md). An instruction that raises a condition ends the
run because every condition an instruction can raise has a bit of its own. An INT with declared names is one run of the
dispatcher, which sees neither `pc` nor the counters nor the list it is called for: that is why an INT for several names
splits into an INT for the first and an INT for the others. -/

namespace Sys2Proof

open Sys2Proof.Safety

/-! ### Several writes to one memory -/

/-- The first of a list of writes counts as the old value for the others. -/
theorem lastWrite_cons {n : Nat} (p : BitVec n × Byte) (ps : List (BitVec n × Byte)) (a : BitVec n) (old : Byte) :
    lastWrite (p :: ps) a old = lastWrite ps a (if p.1 = a then p.2 else old) := by
  unfold lastWrite
  by_cases h : p.1 = a
  · simp only [List.filter_cons, h, BEq.rfl, if_true, List.getLast?_cons]
    cases (ps.filter (fun q => q.1 == a)).getLast? <;> rfl
  · simp [h]

/-- After a list of writes a cell holds the last value written to it, or its old one. -/
theorem Memory.read_writeAll {n : Nat} (m : Memory 8) (writes : List (BitVec n × Byte)) (a : BitVec n) :
    (m.writeAll writes).read a.toNat = lastWrite writes a (m.read a.toNat) := by
  induction writes generalizing m with
  | nil => rfl
  | cons p ps ih =>
    have hfirst : (m.write p.1.toNat p.2).read a.toNat = if p.1 = a then p.2 else m.read a.toNat := by
      simp only [Memory.read_write, BitVec.toNat_inj, eq_comm]
    calc ((m.write p.1.toNat p.2).writeAll ps).read a.toNat
        = lastWrite ps a ((m.write p.1.toNat p.2).read a.toNat) := ih _
      _ = lastWrite (p :: ps) a (m.read a.toNat) := by rw [hfirst, lastWrite_cons]

end Sys2Proof

namespace Sys2Proof.Machine

open Sys2Proof.Safety

/-! ### Instructions that end the run -/

/-- Every condition an instruction can raise has a bit of its own (60_exceptions.md R200). -/
theorem isSet_markCondition_of_raiser {m : Option Mnemonic} {c : Fault} (h : (m, c) ∈ raisers) (r : InterruptRegister) :
    (markCondition c r).isSet = true := by
  rw [InterruptRegister.isSet_eq_true_iff]
  cases c with
  | halt => exact .inl rfl
  | interruptFatal => exact .inr (.inl rfl)
  | illegalInstruction | divideByZero => exact .inr (.inr (.inl rfl))
  | programCounterOverflow | hostStop | deviceStop => simp [raisers] at h

/-- 60_exceptions.md R209 for every instruction: raising a condition is the last thing of a run. -/
theorem exec_ends_of_raise {i : Instr} {s : State} {c : Fault} (h : effect i s = .raise c) :
    ∃ t, exec i s = .next t ∧ t.interruptRegister = markCondition c s.interruptRegister ∧
      OnlyChanges i [.interruptRegister, .ended] [] s t ∧ step t = .fault c := by
  have hraiser : (i.mnemonic, c) ∈ raisers := by
    have hallowed := effect_allowed i s
    rwa [h] at hallowed
  exact exec_raise h (isSet_markCondition_of_raiser hraiser _)

theorem effect_of_unmapped {i : Instr} (h : i.mnemonic = none) (s : State) : effect i s = .raise .illegalInstruction := by
  rw [effect, h]
  rfl

/-- What INT does depends on the list of declared names alone (R186). -/
theorem effect_int (m : Bool) (d : Byte) (s : State) :
    effect (.int m d) s = if s.extNames = [] then .raise .interruptFatal else .dispatch := rfl

/-- Settles O57. -/
theorem intWithoutExtensionsEndsTheRun : Obligations.IntWithoutExtensionsEndsTheRun := fun m d s hnames =>
  exec_ends_of_raise ((effect_int m d s).trans (if_pos hnames))

/-- Settles O58. -/
theorem haltEndsTheRun : Obligations.HaltEndsTheRun := fun m d s =>
  exec_ends_of_raise (rfl : effect (.halt m d) s = .raise .halt)

/-- Settles O59: an opcode without a mnemonic has the one effect of the illegal-instruction handler. -/
theorem unmappedOpcodesEndTheRun : Obligations.UnmappedOpcodesEndTheRun := fun _ s hnone =>
  exec_ends_of_raise (effect_of_unmapped hnone s)

/-! ### The console -/

/-- Settles O51. -/
theorem consoleInputLoadsTheHostsByte : Obligations.ConsoleInputLoadsTheHostsByte :=
  fun _ _ s => ⟨_, exec_eq _ s, rfl, rfl, rfl, onlyChanges_effect nofun⟩

/-- Settles O52. -/
theorem consoleOutputOnlyEmits : Obligations.ConsoleOutputOnlyEmits := by
  refine fun m d s => ⟨?uo, ?uoc, ?uocr⟩
  case uo => exact ⟨_, exec_eq _ s, rfl, rfl, onlyChanges_effect nofun⟩
  case uoc => exact ⟨_, exec_eq _ s, rfl, rfl, onlyChanges_effect nofun⟩
  case uocr => exact ⟨_, exec_eq _ s, rfl, rfl, onlyChanges_effect nofun⟩

/-! ### INT with declared extensions -/

/-- With declared names INT is one run of the dispatcher, whatever the extensions leave (R186, corner case 4). -/
theorem exec_int_of_declared (m : Bool) (d : Byte) {s : State} (hnames : s.extNames ≠ []) :
    exec (.int m d) s = .next (countInstr (opc .int) m (advance (dispatchExtensions s))) := by
  rw [exec_eq, effect_int, if_neg hnames]
  rfl

/-- Settles O54: the dispatcher's own frame, with `pc` and the counters added to it. -/
theorem intWithExtensionsCompletes : Obligations.IntWithExtensionsCompletes := by
  intro m d s hnames
  refine ⟨_, exec_int_of_declared m d hnames, ?pc, ?ticks, ?count, ?frame⟩
  case pc => exact congrArg (· + 1) (dispatchExtensions_pc s)
  case ticks => exact congrArg (· + _) (dispatchExtensions_tickCounter s)
  case count => exact congrArg (· + 1) (dispatchExtensions_instructionCounter s)
  case frame =>
    rw [dispatchExtensions_eq]
    rfl

/-- The dispatcher's frame when it only warns. -/
theorem keeps_dispatchExtensions_of_unregistered {s : State} (h : ∀ n ∈ s.extNames, n ∉ s.registry) :
    Keeps [.pc, .trace] [] s (dispatchExtensions s) := by
  rw [dispatchExtensions_unregistered h]
  refine keeps_of_component (c := .trace) (by simp) (fun p hp => ?_) (fun _ _ _ => rfl)
  cases p with
  | trace => exact absurd rfl hp
  | _ => rfl

/-- Settles O55. -/
theorem intSkipsUnregisteredNames : Obligations.IntSkipsUnregisteredNames := by
  intro m d s hnames hunregistered
  have hkeeps := (keeps_dispatchExtensions_of_unregistered hunregistered).trans (keeps_advance (by simp))
  refine ⟨_, exec_int_of_declared m d hnames, ?pc, ?trace, ?frame⟩
  case pc => exact congrArg (· + 1) (dispatchExtensions_pc s)
  case trace => exact congrArg State.trace (dispatchExtensions_unregistered hunregistered)
  case frame =>
    exact hkeeps.onlyChanges_countInstr (dispatchExtensions_tickCounter s) (dispatchExtensions_instructionCounter s)
      (.int m d)

/-- A registered name is one call of the extension, and its answer is applied. -/
theorem dispatchOne_registered {s : State} {n : ExtName} (h : n ∈ s.registry) :
    dispatchOne s n = countDraw (applyResponse (Config.extProcess s.draws (extRequest n s)) s) :=
  if_pos (List.contains_iff_mem.2 h)

/-- A dispatcher for one declared name handles that name. -/
theorem dispatchExtensions_singleton {s : State} {n : ExtName} (h : s.extNames = [n]) :
    dispatchExtensions s = dispatchOne s n := by
  rw [dispatchExtensions, h]
  rfl

theorem readPort_applyResponse (r : Config.ExtResponse) (s : State) (a : Byte) :
    readPort (applyResponse r s) a = lastWrite r.portWrites a (readPort s a) :=
  Memory.read_writeAll s.ports r.portWrites a

theorem readCache_applyResponse (r : Config.ExtResponse) (s : State) (a : Word16) :
    readCache (applyResponse r s) a = lastWrite r.dataBankWrites a (readCache s a) :=
  Memory.read_writeAll s.dataBank r.dataBankWrites a

/-- The two states differ at most in what no extension sees or changes and INT itself moves between two calls: `pc`, the
counters and the list of declared names. -/
def SameForExtensions (s t : State) : Prop :=
  t = { s with
    pc := t.pc
    tickCounter := t.tickCounter
    instructionCounter := t.instructionCounter
    extNames := t.extNames }

section SameForExtensions
variable {s t u : State}

theorem SameForExtensions.trans (h : SameForExtensions s t) (h' : SameForExtensions t u) : SameForExtensions s u := by
  unfold SameForExtensions at *
  rw [h', h]

theorem SameForExtensions.symm (h : SameForExtensions s t) : SameForExtensions t s := by
  unfold SameForExtensions at *
  rw [h]

/-- What two such states agree in: the pieces an extension may change, and the host's side of its calls. -/
theorem SameForExtensions.agree (h : SameForExtensions s t) : t.ports = s.ports ∧ t.dataBank = s.dataBank ∧
    t.interruptRegister = s.interruptRegister ∧ t.draws = s.draws ∧ t.trace = s.trace := by
  unfold SameForExtensions at h
  rw [h]
  exact ⟨rfl, rfl, rfl, rfl, rfl⟩

theorem SameForExtensions.dispatchOne (h : SameForExtensions s t) (n : ExtName) :
    SameForExtensions (dispatchOne s n) (dispatchOne t n) := by
  unfold SameForExtensions at h
  rw [h]
  unfold Machine.dispatchOne
  split <;> rfl

theorem SameForExtensions.foldl_dispatchOne (h : SameForExtensions s t) (names : List ExtName) :
    SameForExtensions (names.foldl Machine.dispatchOne s) (names.foldl Machine.dispatchOne t) := by
  induction names generalizing s t with
  | nil => exact h
  | cons n ns ih => exact ih (h.dispatchOne n)

/-- An INT for a list of names handles these names as they would be handled from any state the extensions cannot tell
apart. -/
theorem exec_int_sameForExtensions (m : Bool) (d : Byte) (h : SameForExtensions s t) {names : List ExtName}
    (ht : t.extNames = names) (hnames : names ≠ []) :
    ∃ t', exec (.int m d) t = .next t' ∧ SameForExtensions (names.foldl dispatchOne s) t' ∧ t'.pc = t.pc + 1 := by
  subst ht
  refine ⟨_, exec_int_of_declared m d hnames, ?_, congrArg (· + 1) (dispatchExtensions_pc t)⟩
  have hcount : SameForExtensions (dispatchExtensions t) (countInstr (opc .int) m (advance (dispatchExtensions t))) := rfl
  exact (h.foldl_dispatchOne t.extNames).trans hcount

end SameForExtensions

/-- INT for several names, split after the first. -/
theorem exec_int_cons (m : Bool) (d : Byte) {s : State} {n : ExtName} {ns : List ExtName} (hs : s.extNames = n :: ns)
    (hns : ns ≠ []) : ∃ t u v, exec (.int m d) s = .next t ∧ exec (.int m d) { s with extNames := [n] } = .next u ∧
      exec (.int m d) { u with extNames := ns } = .next v ∧ SameForExtensions v t ∧ t.pc = s.pc + 1 := by
  have hfirst : SameForExtensions s { s with extNames := [n] } := rfl
  obtain ⟨t, hexec, hall, hpc⟩ := exec_int_sameForExtensions m d (rfl : SameForExtensions s s) hs (List.cons_ne_nil n ns)
  obtain ⟨u, hexec₁, hone, -⟩ := exec_int_sameForExtensions m d hfirst rfl (List.cons_ne_nil n [])
  have hothers : SameForExtensions u { u with extNames := ns } := rfl
  obtain ⟨v, hexec₂, hrest, -⟩ := exec_int_sameForExtensions m d (hone.trans hothers) rfl hns
  exact ⟨t, u, v, hexec, hexec₁, hexec₂, hrest.symm.trans hall, hpc⟩

/-- Settles O56: for one name the response is applied cell by cell; for more the dispatcher's fold is split after the first
name, and the second INT sees what the rest of the fold sees. -/
theorem intAppliesTheExtensionsWrites : Obligations.IntAppliesTheExtensionsWrites := by
  refine ⟨fun m d s n hs hn => ?one, fun m d s n ns hs hns => ?several⟩
  case one =>
    have hexec := exec_int_of_declared m d (hs ▸ List.cons_ne_nil n [])
    rw [dispatchExtensions_singleton hs, dispatchOne_registered hn] at hexec
    exact ⟨_, hexec, readPort_applyResponse _ s, readCache_applyResponse _ s, InterruptRegister.toBits_ofBits _, rfl, rfl,
      rfl⟩
  case several =>
    obtain ⟨t, u, v, hexec, hexec₁, hexec₂, hsame, hpc⟩ := exec_int_cons m d hs hns
    obtain ⟨hports, hbank, hregister, hdraws, htrace⟩ := hsame.agree
    exact ⟨t, u, v, hexec, hexec₁, hexec₂, hports, hbank, hregister, hdraws, htrace, hpc⟩

end Sys2Proof.Machine

/-! PROOFS. Traps and the host's stop (60_exceptions.md). Outside the dispatcher only a raised condition writes the interrupt
register, and it only adds a bit. No half of an instruction reads or writes the host's request, so a run splits after any of
its polls, and what a host stop leaves is the state before the step that was not taken. -/

namespace Sys2Proof.Machine

open Sys2Proof.Safety

/-! ### What an instruction does to the interrupt register -/

/-- No named bit is cleared and the reserved bits are the same (60_exceptions.md R210). -/
def InterruptRegister.KeepsBits (r r' : InterruptRegister) : Prop :=
  (r.halted = true → r'.halted = true) ∧ (r.interruptPending = true → r'.interruptPending = true) ∧
  (r.illegalInstruction = true → r'.illegalInstruction = true) ∧ r'.reserved = r.reserved

theorem InterruptRegister.KeepsBits.refl (r : InterruptRegister) : r.KeepsBits r := ⟨id, id, id, rfl⟩

/-- Recording a condition sets its bit and touches no other. -/
theorem keepsBits_markCondition (c : Fault) (r : InterruptRegister) : r.KeepsBits (markCondition c r) := by
  cases c with
  | halt => exact ⟨fun _ => rfl, id, id, rfl⟩
  | interruptFatal => exact ⟨id, fun _ => rfl, id, rfl⟩
  | illegalInstruction | divideByZero => exact ⟨id, id, fun _ => rfl, rfl⟩
  | programCounterOverflow | hostStop | deviceStop => exact .refl r

/-- Without the dispatcher, an effect leaves the interrupt register or is a raised condition. -/
theorem Effect.apply_interruptRegister_or_raise {e : Effect} (he : e ≠ .dispatch) (s : State) :
    (e.apply s).interruptRegister = s.interruptRegister ∨ ∃ c, e = .raise c := by
  cases e with
  | raise c => exact .inr ⟨c, rfl⟩
  | dispatch => exact absurd rfl he
  | _ => exact .inl rfl

theorem Effect.apply_keepsBits {e : Effect} (he : e ≠ .dispatch) (s : State) :
    s.interruptRegister.KeepsBits (e.apply s).interruptRegister := by
  obtain hsame | ⟨c, rfl⟩ := Effect.apply_interruptRegister_or_raise he s
  · exact hsame ▸ .refl _
  · exact keepsBits_markCondition c _

theorem effect_ne_dispatch_of_mnemonic {i : Instr} {s : State} (h : s.extNames = [] ∨ i.mnemonic ≠ some .int) :
    effect i s ≠ .dispatch :=
  effect_ne_dispatch (h.imp_right fun hm _ _ hi => hm (congrArg Instr.mnemonic hi))

/-- Settles O25: without the dispatcher an instruction's effect at most records a condition. -/
theorem noInstructionClearsAStatusBit : Obligations.NoInstructionClearsAStatusBit := by
  intro i s t h hno
  obtain rfl := exec_next h
  exact Effect.apply_keepsBits (effect_ne_dispatch_of_mnemonic hno) s

/-- An instruction that sets a bit of a clear register, without the dispatcher, raises a condition. -/
theorem effect_eq_raise_of_isSet {i : Instr} {s : State} (he : effect i s ≠ .dispatch)
    (hclear : s.interruptRegister.isSet = false) (hset : ((effect i s).apply s).interruptRegister.isSet = true) :
    ∃ c, effect i s = .raise c :=
  (Effect.apply_interruptRegister_or_raise he s).resolve_left fun hsame => by simp [hsame, hclear] at hset

/-- Settles O24: a bit that appears was raised, and a raised condition is the last thing of a run (`exec_ends_of_raise`). -/
theorem trapEntryIsPrecise : Obligations.TrapEntryIsPrecise := by
  intro i s t h hno hclear hset
  have hdispatch := effect_ne_dispatch_of_mnemonic hno
  obtain rfl := exec_next h
  obtain ⟨c, hraise⟩ := effect_eq_raise_of_isSet hdispatch hclear hset
  obtain ⟨t, hexec, -, hframe, hfault⟩ := exec_ends_of_raise hraise
  obtain rfl := exec_next hexec
  exact ⟨hframe, Effect.apply_atMostOneBit hdispatch hclear, c, by rw [hraise]; rfl, hfault⟩

/-! ### No instruction sees the host's request -/

/-- The state with another value of the host's request. -/
def setStopRequest (b : Bool) (s : State) : State := { s with stopRequested := b }

@[simp] theorem dispatchExtensions_stopRequested (s : State) :
    (dispatchExtensions s).stopRequested = s.stopRequested := by
  rw [dispatchExtensions_eq]

@[simp] theorem Effect.apply_stopRequested (e : Effect) (s : State) : (e.apply s).stopRequested = s.stopRequested := by
  cases e with
  | dispatch => exact dispatchExtensions_stopRequested s
  | _ => rfl

theorem exec_stopRequested {i : Instr} {s t : State} (h : exec i s = .next t) : t.stopRequested = s.stopRequested := by
  obtain rfl := exec_next h
  exact Effect.apply_stopRequested _ s

section Request
variable (b : Bool) (s : State)

theorem effect_setStopRequest (i : Instr) : effect i (setStopRequest b s) = effect i s := rfl

theorem dispatchOne_setStopRequest (n : ExtName) :
    dispatchOne (setStopRequest b s) n = setStopRequest b (dispatchOne s n) := by
  have hregistry : (setStopRequest b s).registry = s.registry := rfl
  unfold dispatchOne
  rw [hregistry]
  split <;> rfl

theorem dispatchExtensions_setStopRequest :
    dispatchExtensions (setStopRequest b s) = setStopRequest b (dispatchExtensions s) :=
  dispatchExtensions_comm (f := setStopRequest b) (fun _ => rfl) (dispatchOne_setStopRequest b) s

theorem Effect.apply_setStopRequest (e : Effect) : e.apply (setStopRequest b s) = setStopRequest b (e.apply s) := by
  cases e with
  | dispatch => exact congrArg advance (dispatchExtensions_setStopRequest b s)
  | _ => rfl

end Request

/-- An instruction carries the host's request along and lets it influence nothing. -/
theorem exec_setStopRequest {i : Instr} {s t : State} (b : Bool) (h : exec i s = .next t) :
    exec i (setStopRequest b s) = .next (setStopRequest b t) := by
  obtain rfl := exec_next h
  rw [exec_eq, effect_setStopRequest, Effect.apply_setStopRequest]
  rfl

/-! ### The host's request and the step -/

theorem step_of_stopRequested {s : State} (hclear : s.interruptRegister.isSet = false) (hstop : s.stopRequested = true) :
    step s = .fault .hostStop := by
  simp [step, runGuard, hclear, hstop]

/-- A faithful report never names the host's stop, which has no bit. -/
theorem stopReason_ne_hostStop {s : State} (h : EndRecorded s) : stopReason s ≠ .hostStop := by
  intro hreason
  unfold EndRecorded at h
  cases hended : s.ended with
  | none => simp [stopReason, hended] at hreason
  | some c =>
    obtain rfl : c = .hostStop := by simpa [stopReason, hended] using hreason
    simp [hended] at h

/-- With a faithful report, a host stop is told from the stop by a set bit. -/
theorem isSet_of_step_hostStop {s : State} (hrec : EndRecorded s) (h : step s = .fault .hostStop) :
    s.interruptRegister.isSet = false := by
  by_contra hset
  rw [step_of_isSet (Bool.eq_true_of_not_eq_false hset)] at h
  exact stopReason_ne_hostStop hrec (Host.Outcome.fault.inj h)

/-! ### Runs split after any poll -/

section Runs
variable {asked : Bool} {polls : List Bool} {s t : State}

/-- A run that could go on after its first poll took a step there. -/
theorem executeWhole_cons_running (h : executeWhole (asked :: polls) s = .running t) :
    ∃ u, step (pollHost asked s) = .next u ∧ executeWhole polls u = .running t := by
  simp only [executeWhole] at h
  split at h
  · next u hstep => exact ⟨u, hstep, h⟩
  · cases h
  · cases h

/-- A run that stopped did so at its first poll, or took a step there and stopped later. -/
theorem executeWhole_cons_stopped {f : Fault} (h : executeWhole (asked :: polls) s = .stopped f t) :
    (∃ u, step (pollHost asked s) = .next u ∧ executeWhole polls u = .stopped f t) ∨
      step (pollHost asked s) = .fault f ∧ t = clearStopRequest s := by
  simp only [executeWhole] at h
  split at h
  · next u hstep => exact .inl ⟨u, hstep, h⟩
  · next g hstep =>
    obtain ⟨rfl, rfl⟩ := RunResult.stopped.inj h
    exact .inr ⟨hstep, rfl⟩
  · cases h

/-- Going on with more polls is going on from the state the first polls lead to. -/
theorem executeWhole_append (h : executeWhole polls s = .running t) (more : List Bool) :
    executeWhole (polls ++ more) s = executeWhole more t := by
  induction polls generalizing s with
  | nil => exact congrArg (executeWhole more) (RunResult.running.inj h)
  | cons asked polls ih =>
    obtain ⟨u, hstep, hrest⟩ := executeWhole_cons_running h
    exact (executeWhole_cons_next hstep _).trans (ih hrest)

/-- No step leaves a request pending, since it would have been stopped by it. -/
theorem step_stopRequested (h : step s = .next t) : t.stopRequested = false := by
  obtain ⟨-, hstop, -, hexec⟩ := step_next h
  exact (exec_stopRequested hexec).trans hstop

theorem executeWhole_running_stopRequested (hs : s.stopRequested = false) (h : executeWhole polls s = .running t) :
    t.stopRequested = false := by
  induction polls generalizing s with
  | nil => exact RunResult.running.inj h ▸ hs
  | cons asked polls ih =>
    obtain ⟨u, hstep, hrest⟩ := executeWhole_cons_running h
    exact ih (step_stopRequested hstep) hrest

/-- A request that meets a clear interrupt register stops the run with the state as it was. -/
theorem executeWhole_host_stops (hs : s.stopRequested = false) (hclear : s.interruptRegister.isSet = false) :
    executeWhole (true :: polls) s = .stopped .hostStop s := by
  rw [executeWhole_cons_fault (step_pollHost_true hclear), clearStopRequest_of_not hs]

/-- From a state that meets the invariant a host stop leaves a state with no bit set and no request pending. -/
theorem executeWhole_hostStop_leaves (hinv : MachineInv s) (h : executeWhole polls s = .stopped .hostStop t) :
    t.interruptRegister.isSet = false ∧ t.stopRequested = false := by
  induction polls generalizing s with
  | nil => cases h
  | cons asked polls ih =>
    have hpolled : MachineInv (pollHost asked s) := hinv
    obtain ⟨u, hstep, hrest⟩ | ⟨hstop, rfl⟩ := executeWhole_cons_stopped h
    · exact ih (stepKeepsTheInvariant _ u hpolled hstep) hrest
    · obtain ⟨-, -, hrec⟩ := hpolled
      exact ⟨isSet_of_step_hostStop (s := pollHost asked s) hrec hstop, rfl⟩

end Runs

/-- Settles O11: the request is read by the guard alone, runs split after any poll, and the report keeps a host stop apart
from the others. -/
theorem hostStopChangesNothing : Obligations.HostStopChangesNothing := by
  refine ⟨fun s => step_of_stopRequested, fun i s t h => ?unseen, fun n s t hs h polls => ?split,
    fun polls s t hinv h => ?resume⟩
  case unseen => exact ⟨exec_stopRequested h, exec_setStopRequest (!s.stopRequested) h⟩
  case split =>
    refine ⟨executeWhole_append h polls, fun hclear => (executeWhole_append h _).trans ?_⟩
    exact executeWhole_host_stops (executeWhole_running_stopRequested hs h) hclear
  case resume =>
    obtain ⟨hclear, hstop⟩ := executeWhole_hostStop_leaves hinv h
    exact ⟨hclear, hstop, fun hpc => ⟨_, (step_of_guard_clear hclear hstop hpc).trans (exec_eq _ t)⟩⟩

end Sys2Proof.Machine

/-! PROOFS. The loader and the link of a call (70_reset_and_hazards.md). `ContainerOf` says part by part what the loader
reads from a file it accepts, and `parseContainer_eq_ok` that this is what `parseContainer` answers; the round trip and the
booted state are read off from the parts. -/

namespace Sys2Proof.Machine

open Sys2Proof.Safety

/-! ### Little-endian numbers -/

@[simp] theorem length_toLittleEndian (n v : Nat) : (toLittleEndian n v).length = n := by
  induction n generalizing v with
  | zero => rfl
  | succ n ih => simp [toLittleEndian, ih]

/-- `n` bytes hold every number below `256 ^ n`. -/
theorem littleEndian_toLittleEndian {n v : Nat} (h : v < 256 ^ n) : littleEndian (toLittleEndian n v) = v := by
  induction n generalizing v with
  | zero => exact (Nat.lt_one_iff.1 h).symm
  | succ n ih =>
    have hrest : v / 256 < 256 ^ n := Nat.div_lt_of_lt_mul (by rwa [← Nat.pow_succ'])
    rw [toLittleEndian, littleEndian, ih hrest, BitVec.toNat_ofNat]
    omega

/-- Writing back the number that `n` bytes hold gives these bytes. -/
theorem toLittleEndian_littleEndian {n : Nat} {bytes : List Byte} (h : bytes.length = n) :
    toLittleEndian n (littleEndian bytes) = bytes := by
  subst h
  induction bytes with
  | nil => rfl
  | cons b bs ih =>
    have hlow : BitVec.ofNat 8 (b.toNat + 256 * littleEndian bs) = b := by bv_omega
    have hhigh : (b.toNat + 256 * littleEndian bs) / 256 = littleEndian bs := by have := b.isLt; omega
    rw [List.length_cons, littleEndian, toLittleEndian, hlow, hhigh, ih]

/-- The low byte of a number read from a file, and the number above it. -/
theorem littleEndian_take_succ_drop (file : List Byte) (k n : Nat) :
    littleEndian ((file.drop k).take (n + 1)) =
      (file.getD k 0).toNat + 256 * littleEndian ((file.drop (k + 1)).take n) := by
  by_cases hk : k < file.length
  · rw [List.drop_eq_getElem_cons hk, List.take_succ_cons, littleEndian, List.getD_eq_getElem _ _ hk]
  · have hend : file.length ≤ k := Nat.le_of_not_lt hk
    simp [List.drop_of_length_le, hend, Nat.le_succ_of_le hend, littleEndian]

/-- A two-byte number of the header. -/
theorem littleEndian_two (file : List Byte) (k : Nat) : littleEndian ((file.drop k).take 2) =
    (file.getD k 0).toNat + 256 * (file.getD (k + 1) 0).toNat := by
  rw [littleEndian_take_succ_drop, littleEndian_take_succ_drop, List.take_zero, littleEndian]
  omega

/-- A four-byte number of the header. -/
theorem littleEndian_four (file : List Byte) (k : Nat) : littleEndian ((file.drop k).take 4) =
    (file.getD k 0).toNat + 256 * (file.getD (k + 1) 0).toNat + 65536 * (file.getD (k + 2) 0).toNat +
      16777216 * (file.getD (k + 3) 0).toNat := by
  rw [littleEndian_take_succ_drop, littleEndian_take_succ_drop, littleEndian_two]
  ring

/-! ### What the loader reads -/

/-- `c` is what the loader reads from `file`, and the file passes its length and name checks (70_reset_and_hazards.md R232
to R234, R236). -/
structure ContainerOf (file : List Byte) (c : Container) : Prop where
  tag : c.tag = file.take 4
  includeLength : c.includeLength = littleEndian ((file.drop 4).take 2)
  assemblyLength : c.assemblyLength = littleEndian ((file.drop 6).take 4)
  includeSection : c.includeSection = (file.drop 10).take c.includeLength
  assemblySection : c.assemblySection = (file.drop (10 + c.includeLength)).take c.assemblyLength
  named : (includeNames c.includeSection []).isSome = true
  copied_le : 10 + c.includeLength + loaderCopyLength c.assemblyLength ≤ file.length

/-- A check that an accepted file has passed. -/
theorem ite_error_eq_ok {ε α : Type} {p : Prop} [Decidable p] {e : ε} {x : Except ε α} {y : α} :
    (if p then .error e else x) = .ok y ↔ ¬p ∧ x = .ok y := by
  split <;> simp [*]

/-- The loader answers exactly the container of the file. -/
theorem parseContainer_eq_ok {file : List Byte} {c : Container} : parseContainer file = .ok c ↔ ContainerOf file c := by
  simp only [parseContainer, ite_error_eq_ok, List.drop_drop, List.length_drop, Bool.not_eq_true,
    Option.isNone_eq_false_iff, Except.ok.injEq]
  constructor
  · rintro ⟨hheader, hinclude, hnames, hcode, rfl⟩
    exact ⟨rfl, rfl, rfl, rfl, rfl, hnames, by dsimp only; omega⟩
  · obtain ⟨tag, il, al, includeSection, assemblySection⟩ := c
    rintro ⟨htag, hil, hal, his, has, hnames, hlen⟩
    dsimp only at *
    rw [his] at hnames
    rw [← hil, ← hal]
    exact ⟨by omega, by omega, hnames, by omega, by rw [htag, his, has]⟩

/-! ### The round trip -/

theorem loaderCopyLength_le (n : Nat) : loaderCopyLength n ≤ n :=
  (Nat.min_le_left _ _).trans Nat.and_le_left

/-- The well-formedness of a container as propositions. -/
theorem container_wf_iff (c : Container) : c.wf = true ↔
    c.tag.length = 4 ∧ c.includeLength < 2 ^ 16 ∧ c.assemblyLength < 2 ^ 32 ∧
      c.includeSection.length = c.includeLength ∧ c.assemblySection.length = c.assemblyLength := by
  simp [Container.wf, and_assoc]

/-- The bytes a well-formed container is written as are a file of this container. -/
theorem containerOf_serializeContainer {c : Container} (hwf : c.wf = true)
    (hnames : (includeNames c.includeSection []).isSome = true) : ContainerOf (serializeContainer c) c := by
  obtain ⟨htag, hil, hal, his, has⟩ := (container_wf_iff c).1 hwf
  have hcopy := loaderCopyLength_le c.assemblyLength
  have hcut₄ : (serializeContainer c).drop 4 =
      toLittleEndian 2 c.includeLength ++
        (toLittleEndian 4 c.assemblyLength ++ (c.includeSection ++ c.assemblySection)) := by
    simp [serializeContainer, htag]
  have hcut₆ : (serializeContainer c).drop 6 =
      toLittleEndian 4 c.assemblyLength ++ (c.includeSection ++ c.assemblySection) := by
    rw [← List.drop_drop (i := 2) (j := 4), hcut₄, List.drop_left' (length_toLittleEndian 2 _)]
  have hcut₁₀ : (serializeContainer c).drop 10 = c.includeSection ++ c.assemblySection := by
    rw [← List.drop_drop (i := 4) (j := 6), hcut₆, List.drop_left' (length_toLittleEndian 4 _)]
  have hcutCode : (serializeContainer c).drop (10 + c.includeLength) = c.assemblySection := by
    rw [← List.drop_drop, hcut₁₀, List.drop_left' his]
  constructor
  case tag => simp [serializeContainer, htag]
  case includeLength =>
    rw [hcut₄, List.take_left' (length_toLittleEndian 2 _), littleEndian_toLittleEndian (n := 2) hil]
  case assemblyLength =>
    rw [hcut₆, List.take_left' (length_toLittleEndian 4 _), littleEndian_toLittleEndian (n := 4) hal]
  case includeSection => rw [hcut₁₀, List.take_left' his]
  case assemblySection => rw [hcutCode, List.take_of_length_le has.le]
  case named => exact hnames
  case copied_le => simp [serializeContainer, htag, his, has]; omega

/-- The parts read from a file are its bytes up to the end of the declared sections, or of the file. -/
theorem ContainerOf.serializeContainer_eq {file : List Byte} {c : Container} (h : ContainerOf file c) :
    serializeContainer c = file.take (10 + c.includeLength + c.assemblyLength) := by
  have hlen := h.copied_le
  have hil : toLittleEndian 2 c.includeLength = (file.drop 4).take 2 := by
    rw [h.includeLength, toLittleEndian_littleEndian (by rw [List.length_take, List.length_drop]; omega)]
  have hal : toLittleEndian 4 c.assemblyLength = (file.drop 6).take 4 := by
    rw [h.assemblyLength, toLittleEndian_littleEndian (by rw [List.length_take, List.length_drop]; omega)]
  rw [serializeContainer, h.tag, hil, hal, h.includeSection, h.assemblySection, ← List.take_add, ← List.take_add,
    ← List.take_add, ← List.take_add]

/-- Settles O15: a file's container and a container's file determine each other, up to the end of the sections. -/
theorem containerRoundTrip : Obligations.ContainerRoundTrip := by
  refine ⟨fun c hwf hnames => parseContainer_eq_ok.2 (containerOf_serializeContainer hwf hnames), fun file c h => ?_⟩
  have heq := (parseContainer_eq_ok.1 h).serializeContainer_eq
  exact ⟨heq, fun hend => heq.trans (List.take_of_length_le hend)⟩

/-! ### The names of the include section -/

/-- The section is the names, each ASCII and ended by a newline, followed by bytes without one (70_reset_and_hazards.md
R233). -/
structure NamesOf (bytes : List Byte) (names : List ExtName) (rest : List Byte) : Prop where
  bytes_eq : bytes = (names.map (· ++ [0x0A])).flatten ++ rest
  rest_clean : 0x0A ∉ rest
  ascii : ∀ n ∈ names, ∀ b ∈ n, b ≠ 0x0A ∧ b.toNat ≤ 0x7F

/-- What the reader of names answers when it has already read the start `current` of a name, held in reverse. -/
theorem namesOf_includeNames {bytes current : List Byte} {names : List ExtName} (hcurrent : 0x0A ∉ current)
    (h : includeNames bytes current = some names) : ∃ rest, NamesOf (current.reverse ++ bytes) names rest := by
  induction bytes generalizing current names with
  | nil =>
    obtain rfl := Option.some.inj h
    exact ⟨current.reverse, by simp, by simpa using hcurrent, nofun⟩
  | cons b bs ih =>
    rw [includeNames] at h
    split at h
    next hnewline =>
      split at h
      next hascii =>
        obtain ⟨later, hlater, rfl⟩ := Option.map_eq_some_iff.1 h
        obtain ⟨rest, hsplit, hrest, hnext⟩ := ih List.not_mem_nil hlater
        refine ⟨rest, ?_, hrest, List.forall_mem_cons.2 ⟨fun c hc => ?_, hnext⟩⟩
        · rw [List.reverse_nil, List.nil_append] at hsplit
          simp [hnewline, hsplit]
        · have hc' := List.mem_reverse.1 hc
          exact ⟨fun hn => hcurrent (hn ▸ hc'), by simpa using List.all_eq_true.1 hascii c hc'⟩
      next => cases h
    next hnewline =>
      have hb : 0x0A ∉ b :: current := by simpa using ⟨Ne.symm hnewline, hcurrent⟩
      simpa using ih hb h

/-! ### The booted machine -/

/-- What is loaded is the booted container of the file. -/
theorem containerOf_of_load {registry : List ExtName} {file : List Byte} {s : State} (h : load registry file = .ok s) :
    ∃ c, ContainerOf file c ∧ boot registry c = s := by
  unfold load at h
  cases hparse : parseContainer file with
  | error e => simp [hparse, Except.map] at h
  | ok c =>
    rw [hparse] at h
    exact ⟨c, parseContainer_eq_ok.1 hparse, Except.ok.inj h⟩

/-- The program store of a booted machine, byte by byte (70_reset_and_hazards.md R234). -/
theorem peek_rom_boot {file : List Byte} {c : Container} (h : ContainerOf file c) (registry : List ExtName) (a : Nat) :
    peek .rom (boot registry c) a = if a < loaderCopyLength c.assemblyLength
      then (file.getD (10 + c.includeLength + a) 0).toNat else 0 := by
  have hcopy := loaderCopyLength_le c.assemblyLength
  have hcode : loadedCode c = (file.drop (10 + c.includeLength)).take (loaderCopyLength c.assemblyLength) := by
    rw [loadedCode, h.assemblySection, List.take_take, Nat.min_eq_left hcopy]
  have hlen : (loadedCode c).length = loaderCopyLength c.assemblyLength := by
    have := h.copied_le
    rw [hcode, List.length_take, List.length_drop]
    omega
  change ((Memory.copyFrom [] 0 (loadedCode c)).read a).toNat = _
  rw [Memory.read_copyFrom, hlen]
  by_cases ha : a < loaderCopyLength c.assemblyLength
  · simp [ha, hcode]
  · simp [ha]

/-- Settles O14: the header by its bytes, the names by the reader's own recursion, the code by the copy's reads. -/
theorem bootCopiesCodeFromByteZero : Obligations.BootCopiesCodeFromByteZero := by
  intro registry file s h
  obtain ⟨c, hc, rfl⟩ := containerOf_of_load h
  obtain ⟨names, hnames⟩ := Option.isSome_iff_exists.1 hc.named
  have hext : (boot registry c).extNames = names := by simp [boot, hnames]
  obtain ⟨rest, hsplit, hrest, hascii⟩ := namesOf_includeNames List.not_mem_nil hnames
  rw [← hext] at hnames hsplit hascii
  exact ⟨c, rest, parseContainer_eq_ok.2 hc, hc.tag, hc.includeLength.trans (littleEndian_two file 4),
    hc.assemblyLength.trans (littleEndian_four file 6), hc.includeSection, hc.copied_le, peek_rom_boot hc registry,
    hnames, hsplit, hrest, hascii, rfl⟩

/-! ### Calls and returns -/

theorem dropAdr_pushAdr_adrStackPointer (v : Nat) (s : State) :
    (dropAdr (pushAdr v s)).adrStackPointer = s.adrStackPointer := by simp

/-- Settles O33: RET reads the link that CALL pushed, and a `pc` inside the store fits an entry. -/
theorem retAfterCallReturnsToTheLink : Obligations.RetAfterCallReturnsToTheLink := by
  intro m m' d d' s t u hpc hcall hret
  obtain rfl := exec_next hcall
  obtain rfl := exec_next hret
  have hlink := topAdr_dropAdr_pushAdr (callLink s) s
  refine ⟨hlink, fun hoffset => ?_, dropAdr_pushAdr_adrStackPointer (callLink s) s⟩
  calc topAdr (dropAdr (pushAdr (callLink s) s))
      = (s.pc + Config.callLinkOffset) % 2 ^ Config.adrStackEntryBits := hlink
    _ = s.pc % 2 ^ Config.adrStackEntryBits := by rw [hoffset, Nat.add_zero]
    _ = s.pc := Nat.mod_eq_of_lt hpc

end Sys2Proof.Machine

/-! PROOFS. The rows of the opcode table: a row's bytes are those of its word, so a row read back is the instruction whose
encoding it lists. -/

namespace Sys2Proof

theorem tableBytes_toNat (w : Word16) : tableBytes 16 w.toNat = [lowByte w, highByte w] := by
  have hw : w.toNat % 2 ^ 16 = w.toNat := Nat.mod_eq_of_lt w.isLt
  have hlow : BitVec.ofNat 8 w.toNat = lowByte w := by
    apply BitVec.eq_of_toNat_eq
    rw [BitVec.toNat_ofNat, lowByte_toNat]
  have hhigh : BitVec.ofNat 8 (w.toNat / 256) = highByte w := by
    apply BitVec.eq_of_toNat_eq
    have := w.isLt
    rw [BitVec.toNat_ofNat, highByte_toNat]
    omega
  rw [tableBytes, hw, hlow, hhigh]

/-- Reading back the word of an instruction gives the instruction. -/
theorem decodeTableWord_of_encode {i : Instr} {w : Nat} (h : (encode i).toNat = w) : decodeTableWord 16 w = some i := by
  have hdecode : decode (encodeBytes i) = .ok (i, []) := (decodeOfEncodeIsIdentity i []).2
  rw [← h, decodeTableWord, tableBytes_toNat, ← encodeBytes, hdecode]

/-- Settles O5: each word is the encoding of the instruction listed for it, so it decodes to that instruction. -/
theorem sampleWordsDecode : Obligations.SampleWordsDecode := by
  have hbytes : encodeBytes (.lra false 5) = [0x81, 0x02] := by decide
  refine ⟨decodeTableWord_of_encode (by decide), decodeTableWord_of_encode (by decide),
    decodeTableWord_of_encode (by decide), decodeTableWord_of_encode (by decide), decodeTableWord_of_encode (by decide),
    decodeTableWord_of_encode (by decide), ?_⟩
  calc decode [0x81, 0x02, 0xAA]
      = decode (encodeBytes (.lra false 5) ++ [0xAA]) := by rw [hbytes]; rfl
    _ = .ok (.lra false 5, [0xAA]) := (decodeOfEncodeIsIdentity _ _).2

end Sys2Proof
